-- ==== Sys2Proof/Word.lean ====
section
/-! DEFINITION. The two word sizes of the machine: the byte of its registers and memory, and the 16-bit
word of its pairs, `SP`, `PC` and addresses (00_scope.md R6). -/

namespace Sys2Proof

/-- Eight bits: a register, a memory byte, an opcode byte (R6: general register width, data bus width). -/
abbrev Byte := BitVec 8

/-- Sixteen bits: a register pair, `SP`, `PC`, an address (R6: PC width, SP width, address width). -/
abbrev Word := BitVec 16

end Sys2Proof
end

