-- ==== Sys2Proof/WellFormed.lean ====
section
/-! DEFINITION. Which terms of `Instr` are instructions. Every operand's width is its type's, so one check is left:
the eleven unassigned opcode bytes are rows of the opcode table and "select no instruction" (30_encoding.md R115). -/

namespace Sys2Proof

/-- The rows of the table that select no instruction (R115, R277). -/
def Instr.unassigned : Instr → Bool
  | .illegalD3 => true
  | .illegalDB => true
  | .illegalDD => true
  | .illegalE3 => true
  | .illegalE4 => true
  | .illegalEB => true
  | .illegalEC => true
  | .illegalED => true
  | .illegalF4 => true
  | .illegalFC => true
  | .illegalFD => true
  | _ => false

/-- `i` is an instruction: its first byte is none of the eleven unassigned ones (R115). -/
def Instr.wf (i : Instr) : Bool := !i.unassigned

end Sys2Proof
end

