-- ==== Sys2Proof/Decode.lean ====
section
/-! DEFINITION. From bytes to instructions and back (30_encoding.md). The decoder reads the fields of the opcode byte
(R101) and the selectors of R104 to R109; the encoder is written from the opcode maps R113 and R114, byte by byte. -/

namespace Sys2Proof

/-! ## Byte order (R85, R111) -/

/-- The word whose bits 7:0 are `lo` and bits 15:8 are `hi`: `hi ## lo` (R9). -/
def wordOf (hi lo : Byte) : Word := hi ++ lo

/-- Bits 7:0 of a word. -/
def lowByte (w : Word) : Byte := w.extractLsb' 0 8

/-- Bits 15:8 of a word. -/
def highByte (w : Word) : Byte := w.extractLsb' 8 8

/-! ## The instructions of one shape, by the operands their encodings select -/

/-- `LD r,r'` (R130). -/
def Instr.ldReg : R8 → R8 → Instr
  | .b, .b => .ldBB
  | .b, .c => .ldBC
  | .b, .d => .ldBD
  | .b, .e => .ldBE
  | .b, .h => .ldBH
  | .b, .l => .ldBL
  | .b, .a => .ldBA
  | .c, .b => .ldCB
  | .c, .c => .ldCC
  | .c, .d => .ldCD
  | .c, .e => .ldCE
  | .c, .h => .ldCH
  | .c, .l => .ldCL
  | .c, .a => .ldCA
  | .d, .b => .ldDB
  | .d, .c => .ldDC
  | .d, .d => .ldDD
  | .d, .e => .ldDE
  | .d, .h => .ldDH
  | .d, .l => .ldDL
  | .d, .a => .ldDA
  | .e, .b => .ldEB
  | .e, .c => .ldEC
  | .e, .d => .ldED
  | .e, .e => .ldEE
  | .e, .h => .ldEH
  | .e, .l => .ldEL
  | .e, .a => .ldEA
  | .h, .b => .ldHB
  | .h, .c => .ldHC
  | .h, .d => .ldHD
  | .h, .e => .ldHE
  | .h, .h => .ldHH
  | .h, .l => .ldHL
  | .h, .a => .ldHA
  | .l, .b => .ldLB
  | .l, .c => .ldLC
  | .l, .d => .ldLD
  | .l, .e => .ldLE
  | .l, .h => .ldLH
  | .l, .l => .ldLL
  | .l, .a => .ldLA
  | .a, .b => .ldAB
  | .a, .c => .ldAC
  | .a, .d => .ldAD
  | .a, .e => .ldAE
  | .a, .h => .ldAH
  | .a, .l => .ldAL
  | .a, .a => .ldAA

/-- `LD r,n` (R131). -/
def Instr.ldImm : R8 → Byte → Instr
  | .b, n => .ldBN n
  | .c, n => .ldCN n
  | .d, n => .ldDN n
  | .e, n => .ldEN n
  | .h, n => .ldHN n
  | .l, n => .ldLN n
  | .a, n => .ldAN n

/-- `LD r,(HL)` (R132). -/
def Instr.ldFromHl : R8 → Instr
  | .b => .ldBMHl
  | .c => .ldCMHl
  | .d => .ldDMHl
  | .e => .ldEMHl
  | .h => .ldHMHl
  | .l => .ldLMHl
  | .a => .ldAMHl

/-- `LD (HL),r` (R133). -/
def Instr.ldToHl : R8 → Instr
  | .b => .ldMHlB
  | .c => .ldMHlC
  | .d => .ldMHlD
  | .e => .ldMHlE
  | .h => .ldMHlH
  | .l => .ldMHlL
  | .a => .ldMHlA

/-- The register form of the eight operations (R178). -/
def Instr.aluReg : AluOp → R8 → Instr
  | .add, .b => .addAB
  | .add, .c => .addAC
  | .add, .d => .addAD
  | .add, .e => .addAE
  | .add, .h => .addAH
  | .add, .l => .addAL
  | .add, .a => .addAA
  | .adc, .b => .adcAB
  | .adc, .c => .adcAC
  | .adc, .d => .adcAD
  | .adc, .e => .adcAE
  | .adc, .h => .adcAH
  | .adc, .l => .adcAL
  | .adc, .a => .adcAA
  | .sub, .b => .subB
  | .sub, .c => .subC
  | .sub, .d => .subD
  | .sub, .e => .subE
  | .sub, .h => .subH
  | .sub, .l => .subL
  | .sub, .a => .subA
  | .sbc, .b => .sbcAB
  | .sbc, .c => .sbcAC
  | .sbc, .d => .sbcAD
  | .sbc, .e => .sbcAE
  | .sbc, .h => .sbcAH
  | .sbc, .l => .sbcAL
  | .sbc, .a => .sbcAA
  | .and, .b => .andB
  | .and, .c => .andC
  | .and, .d => .andD
  | .and, .e => .andE
  | .and, .h => .andH
  | .and, .l => .andL
  | .and, .a => .andA
  | .xor, .b => .xorB
  | .xor, .c => .xorC
  | .xor, .d => .xorD
  | .xor, .e => .xorE
  | .xor, .h => .xorH
  | .xor, .l => .xorL
  | .xor, .a => .xorA
  | .or, .b => .orB
  | .or, .c => .orC
  | .or, .d => .orD
  | .or, .e => .orE
  | .or, .h => .orH
  | .or, .l => .orL
  | .or, .a => .orA
  | .cp, .b => .cpB
  | .cp, .c => .cpC
  | .cp, .d => .cpD
  | .cp, .e => .cpE
  | .cp, .h => .cpH
  | .cp, .l => .cpL
  | .cp, .a => .cpA

/-- The memory form of the eight operations (R178). -/
def Instr.aluMem : AluOp → Instr
  | .add => .addAMHl
  | .adc => .adcAMHl
  | .sub => .subMHl
  | .sbc => .sbcAMHl
  | .and => .andMHl
  | .xor => .xorMHl
  | .or => .orMHl
  | .cp => .cpMHl

/-- The immediate form of the eight operations (R178). -/
def Instr.aluImm : AluOp → Byte → Instr
  | .add, n => .addAN n
  | .adc, n => .adcAN n
  | .sub, n => .subN n
  | .sbc, n => .sbcAN n
  | .and, n => .andN n
  | .xor, n => .xorN n
  | .or, n => .orN n
  | .cp, n => .cpN n

/-- `INC r` (R204). -/
def Instr.incReg : R8 → Instr
  | .b => .incB
  | .c => .incC
  | .d => .incD
  | .e => .incE
  | .h => .incH
  | .l => .incL
  | .a => .incA

/-- `DEC r` (R206). -/
def Instr.decReg : R8 → Instr
  | .b => .decB
  | .c => .decC
  | .d => .decD
  | .e => .decE
  | .h => .decH
  | .l => .decL
  | .a => .decA

/-- `LD rr,nn` (R160). -/
def Instr.ldPair : R16 → Word → Instr
  | .bc, nn => .ldBcNn nn
  | .de, nn => .ldDeNn nn
  | .hl, nn => .ldHlNn nn
  | .sp, nn => .ldSpNn nn

/-- `ADD HL,rr` (R215). -/
def Instr.addHl : R16 → Instr
  | .bc => .addHlBc
  | .de => .addHlDe
  | .hl => .addHlHl
  | .sp => .addHlSp

/-- `INC rr` (R216). -/
def Instr.incPair : R16 → Instr
  | .bc => .incBc
  | .de => .incDe
  | .hl => .incHl
  | .sp => .incSp

/-- `DEC rr` (R217). -/
def Instr.decPair : R16 → Instr
  | .bc => .decBc
  | .de => .decDe
  | .hl => .decHl
  | .sp => .decSp

/-- `PUSH rr` (R164). -/
def Instr.push : R16Stk → Instr
  | .bc => .pushBc
  | .de => .pushDe
  | .hl => .pushHl
  | .af => .pushAf

/-- `POP rr` (R165). -/
def Instr.pop : R16Stk → Instr
  | .bc => .popBc
  | .de => .popDe
  | .hl => .popHl
  | .af => .popAf

/-- `JR cc,e` (R254). -/
def Instr.jrIf : Cond → Byte → Instr
  | .nz, e => .jrNzE e
  | .z, e => .jrZE e
  | .nc, e => .jrNcE e
  | .c, e => .jrCE e

/-- `JP cc,nn` (R251). -/
def Instr.jpIf : Cond → Word → Instr
  | .nz, nn => .jpNzNn nn
  | .z, nn => .jpZNn nn
  | .nc, nn => .jpNcNn nn
  | .c, nn => .jpCNn nn

/-- `CALL cc,nn` (R256). -/
def Instr.callIf : Cond → Word → Instr
  | .nz, nn => .callNzNn nn
  | .z, nn => .callZNn nn
  | .nc, nn => .callNcNn nn
  | .c, nn => .callCNn nn

/-- `RET cc` (R258). -/
def Instr.retIf : Cond → Instr
  | .nz => .retNz
  | .z => .retZ
  | .nc => .retNc
  | .c => .retC

/-- `RST t`, `t = 8 * ttt` (R260). -/
def Instr.rst : Oct → Instr
  | .n0 => .rst00
  | .n1 => .rst08
  | .n2 => .rst10
  | .n3 => .rst18
  | .n4 => .rst20
  | .n5 => .rst28
  | .n6 => .rst30
  | .n7 => .rst38

/-- The prefixed rotates and shifts on a register (R224 to R231). -/
def Instr.shiftReg : ShiftOp → R8 → Instr
  | .rlc, .b => .rlcB
  | .rlc, .c => .rlcC
  | .rlc, .d => .rlcD
  | .rlc, .e => .rlcE
  | .rlc, .h => .rlcH
  | .rlc, .l => .rlcL
  | .rlc, .a => .rlcA
  | .rrc, .b => .rrcB
  | .rrc, .c => .rrcC
  | .rrc, .d => .rrcD
  | .rrc, .e => .rrcE
  | .rrc, .h => .rrcH
  | .rrc, .l => .rrcL
  | .rrc, .a => .rrcA
  | .rl, .b => .rlB
  | .rl, .c => .rlC
  | .rl, .d => .rlD
  | .rl, .e => .rlE
  | .rl, .h => .rlH
  | .rl, .l => .rlL
  | .rl, .a => .rlA
  | .rr, .b => .rrB
  | .rr, .c => .rrC
  | .rr, .d => .rrD
  | .rr, .e => .rrE
  | .rr, .h => .rrH
  | .rr, .l => .rrL
  | .rr, .a => .rrA
  | .sla, .b => .slaB
  | .sla, .c => .slaC
  | .sla, .d => .slaD
  | .sla, .e => .slaE
  | .sla, .h => .slaH
  | .sla, .l => .slaL
  | .sla, .a => .slaA
  | .sra, .b => .sraB
  | .sra, .c => .sraC
  | .sra, .d => .sraD
  | .sra, .e => .sraE
  | .sra, .h => .sraH
  | .sra, .l => .sraL
  | .sra, .a => .sraA
  | .swap, .b => .swapB
  | .swap, .c => .swapC
  | .swap, .d => .swapD
  | .swap, .e => .swapE
  | .swap, .h => .swapH
  | .swap, .l => .swapL
  | .swap, .a => .swapA
  | .srl, .b => .srlB
  | .srl, .c => .srlC
  | .srl, .d => .srlD
  | .srl, .e => .srlE
  | .srl, .h => .srlH
  | .srl, .l => .srlL
  | .srl, .a => .srlA

/-- The prefixed rotates and shifts on `(HL)` (R224 to R231). -/
def Instr.shiftMem : ShiftOp → Instr
  | .rlc => .rlcMHl
  | .rrc => .rrcMHl
  | .rl => .rlMHl
  | .rr => .rrMHl
  | .sla => .slaMHl
  | .sra => .sraMHl
  | .swap => .swapMHl
  | .srl => .srlMHl

/-- `BIT b,r` (R232). -/
def Instr.bitReg : Oct → R8 → Instr
  | .n0, .b => .bit0B
  | .n0, .c => .bit0C
  | .n0, .d => .bit0D
  | .n0, .e => .bit0E
  | .n0, .h => .bit0H
  | .n0, .l => .bit0L
  | .n0, .a => .bit0A
  | .n1, .b => .bit1B
  | .n1, .c => .bit1C
  | .n1, .d => .bit1D
  | .n1, .e => .bit1E
  | .n1, .h => .bit1H
  | .n1, .l => .bit1L
  | .n1, .a => .bit1A
  | .n2, .b => .bit2B
  | .n2, .c => .bit2C
  | .n2, .d => .bit2D
  | .n2, .e => .bit2E
  | .n2, .h => .bit2H
  | .n2, .l => .bit2L
  | .n2, .a => .bit2A
  | .n3, .b => .bit3B
  | .n3, .c => .bit3C
  | .n3, .d => .bit3D
  | .n3, .e => .bit3E
  | .n3, .h => .bit3H
  | .n3, .l => .bit3L
  | .n3, .a => .bit3A
  | .n4, .b => .bit4B
  | .n4, .c => .bit4C
  | .n4, .d => .bit4D
  | .n4, .e => .bit4E
  | .n4, .h => .bit4H
  | .n4, .l => .bit4L
  | .n4, .a => .bit4A
  | .n5, .b => .bit5B
  | .n5, .c => .bit5C
  | .n5, .d => .bit5D
  | .n5, .e => .bit5E
  | .n5, .h => .bit5H
  | .n5, .l => .bit5L
  | .n5, .a => .bit5A
  | .n6, .b => .bit6B
  | .n6, .c => .bit6C
  | .n6, .d => .bit6D
  | .n6, .e => .bit6E
  | .n6, .h => .bit6H
  | .n6, .l => .bit6L
  | .n6, .a => .bit6A
  | .n7, .b => .bit7B
  | .n7, .c => .bit7C
  | .n7, .d => .bit7D
  | .n7, .e => .bit7E
  | .n7, .h => .bit7H
  | .n7, .l => .bit7L
  | .n7, .a => .bit7A

/-- `BIT b,(HL)` (R233). -/
def Instr.bitMem : Oct → Instr
  | .n0 => .bit0MHl
  | .n1 => .bit1MHl
  | .n2 => .bit2MHl
  | .n3 => .bit3MHl
  | .n4 => .bit4MHl
  | .n5 => .bit5MHl
  | .n6 => .bit6MHl
  | .n7 => .bit7MHl

/-- `RES b,r` (R234). -/
def Instr.resReg : Oct → R8 → Instr
  | .n0, .b => .res0B
  | .n0, .c => .res0C
  | .n0, .d => .res0D
  | .n0, .e => .res0E
  | .n0, .h => .res0H
  | .n0, .l => .res0L
  | .n0, .a => .res0A
  | .n1, .b => .res1B
  | .n1, .c => .res1C
  | .n1, .d => .res1D
  | .n1, .e => .res1E
  | .n1, .h => .res1H
  | .n1, .l => .res1L
  | .n1, .a => .res1A
  | .n2, .b => .res2B
  | .n2, .c => .res2C
  | .n2, .d => .res2D
  | .n2, .e => .res2E
  | .n2, .h => .res2H
  | .n2, .l => .res2L
  | .n2, .a => .res2A
  | .n3, .b => .res3B
  | .n3, .c => .res3C
  | .n3, .d => .res3D
  | .n3, .e => .res3E
  | .n3, .h => .res3H
  | .n3, .l => .res3L
  | .n3, .a => .res3A
  | .n4, .b => .res4B
  | .n4, .c => .res4C
  | .n4, .d => .res4D
  | .n4, .e => .res4E
  | .n4, .h => .res4H
  | .n4, .l => .res4L
  | .n4, .a => .res4A
  | .n5, .b => .res5B
  | .n5, .c => .res5C
  | .n5, .d => .res5D
  | .n5, .e => .res5E
  | .n5, .h => .res5H
  | .n5, .l => .res5L
  | .n5, .a => .res5A
  | .n6, .b => .res6B
  | .n6, .c => .res6C
  | .n6, .d => .res6D
  | .n6, .e => .res6E
  | .n6, .h => .res6H
  | .n6, .l => .res6L
  | .n6, .a => .res6A
  | .n7, .b => .res7B
  | .n7, .c => .res7C
  | .n7, .d => .res7D
  | .n7, .e => .res7E
  | .n7, .h => .res7H
  | .n7, .l => .res7L
  | .n7, .a => .res7A

/-- `RES b,(HL)` (R235). -/
def Instr.resMem : Oct → Instr
  | .n0 => .res0MHl
  | .n1 => .res1MHl
  | .n2 => .res2MHl
  | .n3 => .res3MHl
  | .n4 => .res4MHl
  | .n5 => .res5MHl
  | .n6 => .res6MHl
  | .n7 => .res7MHl

/-- `SET b,r` (R236). -/
def Instr.setReg : Oct → R8 → Instr
  | .n0, .b => .set0B
  | .n0, .c => .set0C
  | .n0, .d => .set0D
  | .n0, .e => .set0E
  | .n0, .h => .set0H
  | .n0, .l => .set0L
  | .n0, .a => .set0A
  | .n1, .b => .set1B
  | .n1, .c => .set1C
  | .n1, .d => .set1D
  | .n1, .e => .set1E
  | .n1, .h => .set1H
  | .n1, .l => .set1L
  | .n1, .a => .set1A
  | .n2, .b => .set2B
  | .n2, .c => .set2C
  | .n2, .d => .set2D
  | .n2, .e => .set2E
  | .n2, .h => .set2H
  | .n2, .l => .set2L
  | .n2, .a => .set2A
  | .n3, .b => .set3B
  | .n3, .c => .set3C
  | .n3, .d => .set3D
  | .n3, .e => .set3E
  | .n3, .h => .set3H
  | .n3, .l => .set3L
  | .n3, .a => .set3A
  | .n4, .b => .set4B
  | .n4, .c => .set4C
  | .n4, .d => .set4D
  | .n4, .e => .set4E
  | .n4, .h => .set4H
  | .n4, .l => .set4L
  | .n4, .a => .set4A
  | .n5, .b => .set5B
  | .n5, .c => .set5C
  | .n5, .d => .set5D
  | .n5, .e => .set5E
  | .n5, .h => .set5H
  | .n5, .l => .set5L
  | .n5, .a => .set5A
  | .n6, .b => .set6B
  | .n6, .c => .set6C
  | .n6, .d => .set6D
  | .n6, .e => .set6E
  | .n6, .h => .set6H
  | .n6, .l => .set6L
  | .n6, .a => .set6A
  | .n7, .b => .set7B
  | .n7, .c => .set7C
  | .n7, .d => .set7D
  | .n7, .e => .set7E
  | .n7, .h => .set7H
  | .n7, .l => .set7L
  | .n7, .a => .set7A

/-- `SET b,(HL)` (R237). -/
def Instr.setMem : Oct → Instr
  | .n0 => .set0MHl
  | .n1 => .set1MHl
  | .n2 => .set2MHl
  | .n3 => .set3MHl
  | .n4 => .set4MHl
  | .n5 => .set5MHl
  | .n6 => .set6MHl
  | .n7 => .set7MHl

/-! ## Operand selectors -/

/-- `r8[i]` (R104); none for `i = 6`, the memory byte at `HL`. -/
def R8.ofField : Nat → Option R8
  | 0 => some .b
  | 1 => some .c
  | 2 => some .d
  | 3 => some .e
  | 4 => some .h
  | 5 => some .l
  | 7 => some .a
  | _ => none

/-- `r16[i]` (R105). -/
def R16.ofField : Nat → R16
  | 0 => .bc
  | 1 => .de
  | 2 => .hl
  | _ => .sp

/-- `r16stk[i]` (R106). -/
def R16Stk.ofField : Nat → R16Stk
  | 0 => .bc
  | 1 => .de
  | 2 => .hl
  | _ => .af

/-- The condition of the field `cc` (R107). -/
def Cond.ofField : Nat → Cond
  | 0 => .nz
  | 1 => .z
  | 2 => .nc
  | _ => .c

/-- The arithmetic operation of the field `y` (R108). -/
def AluOp.ofField : Nat → AluOp
  | 0 => .add
  | 1 => .adc
  | 2 => .sub
  | 3 => .sbc
  | 4 => .and
  | 5 => .xor
  | 6 => .or
  | _ => .cp

/-- The rotate or shift of the field `y` (R109). -/
def ShiftOp.ofField : Nat → ShiftOp
  | 0 => .rlc
  | 1 => .rrc
  | 2 => .rl
  | 3 => .rr
  | 4 => .sla
  | 5 => .sra
  | 6 => .swap
  | _ => .srl

/-- The number in a 3-bit field (R101). -/
def Oct.ofField : Nat → Oct
  | 0 => .n0
  | 1 => .n1
  | 2 => .n2
  | 3 => .n3
  | 4 => .n4
  | 5 => .n5
  | 6 => .n6
  | _ => .n7

/-- The number a 3-bit field holds. -/
def Oct.toNat : Oct → Nat
  | .n0 => 0
  | .n1 => 1
  | .n2 => 2
  | .n3 => 3
  | .n4 => 4
  | .n5 => 5
  | .n6 => 6
  | .n7 => 7

/-! ## The fields of an opcode byte (R101) -/

/-- The major group, bits 7:6. -/
def fieldX (b : Byte) : Nat := b.toNat / 64

/-- Bits 5:3. -/
def fieldY (b : Byte) : Nat := b.toNat / 8 % 8

/-- Bits 2:0. -/
def fieldZ (b : Byte) : Nat := b.toNat % 8

/-! ## The decoder -/

/-- `x = 0`: relative jumps, 16-bit loads and arithmetic, `INC`, `DEC`, `LD r,n`, accumulator operations (R113). -/
def decodeX0 (y z : Nat) (n1 n2 : Byte) : Instr :=
  match z with
  | 0 =>
    match y with
    | 0 => .nop
    | 1 => .ldMNnSp (wordOf n2 n1)
    | 2 => .stop n1
    | 3 => .jrE n1
    | _ => .jrIf (Cond.ofField (y - 4)) n1
  | 1 =>
    if y % 2 = 0 then .ldPair (R16.ofField (y / 2)) (wordOf n2 n1) else .addHl (R16.ofField (y / 2))
  | 2 =>
    match y with
    | 0 => .ldMBcA
    | 1 => .ldAMBc
    | 2 => .ldMDeA
    | 3 => .ldAMDe
    | 4 => .ldMHliA
    | 5 => .ldAMHli
    | 6 => .ldMHldA
    | _ => .ldAMHld
  | 3 => if y % 2 = 0 then .incPair (R16.ofField (y / 2)) else .decPair (R16.ofField (y / 2))
  | 4 =>
    match R8.ofField y with
    | some r => .incReg r
    | none => .incMHl
  | 5 =>
    match R8.ofField y with
    | some r => .decReg r
    | none => .decMHl
  | 6 =>
    match R8.ofField y with
    | some r => .ldImm r n1
    | none => .ldMHlN n1
  | _ =>
    match y with
    | 0 => .rlca
    | 1 => .rrca
    | 2 => .rla
    | 3 => .rra
    | 4 => .daa
    | 5 => .cpl
    | 6 => .scf
    | _ => .ccf

/-- `x = 1`: register loads; the hole at `LD (HL),(HL)` is `HALT` (R121). -/
def decodeX1 (y z : Nat) : Instr :=
  match R8.ofField y, R8.ofField z with
  | some rd, some r => .ldReg rd r
  | some rd, none => .ldFromHl rd
  | none, some r => .ldToHl r
  | none, none => .halt

/-- `x = 2`: arithmetic on `A` (R108). -/
def decodeX2 (y z : Nat) : Instr :=
  match R8.ofField z with
  | some r => .aluReg (AluOp.ofField y) r
  | none => .aluMem (AluOp.ofField y)

/-- The prefixed map, by the second byte (R114, R117). -/
def decodeCb (b : Byte) : Instr :=
  match fieldX b, R8.ofField (fieldZ b) with
  | 0, some r => .shiftReg (ShiftOp.ofField (fieldY b)) r
  | 0, none => .shiftMem (ShiftOp.ofField (fieldY b))
  | 1, some r => .bitReg (Oct.ofField (fieldY b)) r
  | 1, none => .bitMem (Oct.ofField (fieldY b))
  | 2, some r => .resReg (Oct.ofField (fieldY b)) r
  | 2, none => .resMem (Oct.ofField (fieldY b))
  | _, some r => .setReg (Oct.ofField (fieldY b)) r
  | _, none => .setMem (Oct.ofField (fieldY b))

/-- `x = 3`: control transfer, stack, high page, immediate arithmetic; `0xCB` is the prefix (R117), and the eleven
unassigned bytes stand here (R115). -/
def decodeX3 (y z : Nat) (n1 n2 : Byte) : Instr :=
  match z with
  | 0 =>
    match y with
    | 4 => .ldhMNA n1
    | 5 => .addSpE n1
    | 6 => .ldhAMN n1
    | 7 => .ldHlSpE n1
    | _ => .retIf (Cond.ofField y)
  | 1 =>
    match y with
    | 1 => .ret
    | 3 => .reti
    | 5 => .jpHl
    | 7 => .ldSpHl
    | _ => .pop (R16Stk.ofField (y / 2))
  | 2 =>
    match y with
    | 4 => .ldhMCA
    | 5 => .ldMNnA (wordOf n2 n1)
    | 6 => .ldhAMC
    | 7 => .ldAMNn (wordOf n2 n1)
    | _ => .jpIf (Cond.ofField y) (wordOf n2 n1)
  | 3 =>
    match y with
    | 0 => .jpNn (wordOf n2 n1)
    | 1 => decodeCb n1
    | 2 => .illegalD3
    | 3 => .illegalDB
    | 4 => .illegalE3
    | 5 => .illegalEB
    | 6 => .di
    | _ => .ei
  | 4 =>
    match y with
    | 4 => .illegalE4
    | 5 => .illegalEC
    | 6 => .illegalF4
    | 7 => .illegalFC
    | _ => .callIf (Cond.ofField y) (wordOf n2 n1)
  | 5 =>
    match y with
    | 1 => .callNn (wordOf n2 n1)
    | 3 => .illegalDD
    | 5 => .illegalED
    | 7 => .illegalFD
    | _ => .push (R16Stk.ofField (y / 2))
  | 6 => .aluImm (AluOp.ofField y) n1
  | _ => .rst (Oct.ofField y)

/-- The instruction that begins with the byte `b0`, when `n1` and `n2` are the two bytes after it; a shorter
instruction ignores what it does not reach. -/
def decodeBytes (b0 n1 n2 : Byte) : Instr :=
  match fieldX b0 with
  | 0 => decodeX0 (fieldY b0) (fieldZ b0) n1 n2
  | 1 => decodeX1 (fieldY b0) (fieldZ b0)
  | 2 => decodeX2 (fieldY b0) (fieldZ b0)
  | _ => decodeX3 (fieldY b0) (fieldZ b0) n1 n2

/-- The length of an instruction from its first byte alone, by the fields as R116 lists them; 1 for an unassigned
byte, which the table gives no length. -/
def lengthOf (b0 : Byte) : Nat :=
  match fieldX b0, fieldZ b0, fieldY b0 with
  | 0, 1, y => if y % 2 = 0 then 3 else 1
  | 0, 0, y => if y = 1 then 3 else if 2 ≤ y then 2 else 1
  | 0, 6, _ => 2
  | 3, 2, y => if y < 4 ∨ y = 5 ∨ y = 7 then 3 else 1
  | 3, 3, y => if y = 0 then 3 else if y = 1 then 2 else 1
  | 3, 4, y => if y < 4 then 3 else 1
  | 3, 5, y => if y = 1 then 3 else 1
  | 3, 6, _ => 2
  | 3, 0, y => if 4 ≤ y then 2 else 1
  | _, _, _ => 1

/-- Why a list of bytes decodes to nothing. -/
inductive DecodeError where
  /-- There is no first byte. -/
  | noBytes
  /-- The list ends inside the instruction that begins with `first`. -/
  | truncated (first : Byte)
  deriving DecidableEq, Repr

/-- The instruction at the head of a list of bytes, with the bytes after it. An unassigned byte decodes to its own row
of the table, never to a neighbour. -/
def decode : List Byte → Except DecodeError (Instr × List Byte)
  | [] => .error .noBytes
  | b0 :: rest =>
    if rest.length + 1 < lengthOf b0 then .error (.truncated b0)
    else .ok (decodeBytes b0 (rest.getD 0 0) (rest.getD 1 0), rest.drop (lengthOf b0 - 1))

/-! ## The encoder -/

/-- The bytes of an instruction, the first at the lowest address (R100, R113, R114). -/
def encode : Instr → List Byte
  | .nop => [0x00]
  | .ldBcNn nn => [0x01, lowByte nn, highByte nn]
  | .ldMBcA => [0x02]
  | .incBc => [0x03]
  | .incB => [0x04]
  | .decB => [0x05]
  | .ldBN n => [0x06, n]
  | .rlca => [0x07]
  | .ldMNnSp nn => [0x08, lowByte nn, highByte nn]
  | .addHlBc => [0x09]
  | .ldAMBc => [0x0A]
  | .decBc => [0x0B]
  | .incC => [0x0C]
  | .decC => [0x0D]
  | .ldCN n => [0x0E, n]
  | .rrca => [0x0F]
  | .stop n => [0x10, n]
  | .ldDeNn nn => [0x11, lowByte nn, highByte nn]
  | .ldMDeA => [0x12]
  | .incDe => [0x13]
  | .incD => [0x14]
  | .decD => [0x15]
  | .ldDN n => [0x16, n]
  | .rla => [0x17]
  | .jrE e => [0x18, e]
  | .addHlDe => [0x19]
  | .ldAMDe => [0x1A]
  | .decDe => [0x1B]
  | .incE => [0x1C]
  | .decE => [0x1D]
  | .ldEN n => [0x1E, n]
  | .rra => [0x1F]
  | .jrNzE e => [0x20, e]
  | .ldHlNn nn => [0x21, lowByte nn, highByte nn]
  | .ldMHliA => [0x22]
  | .incHl => [0x23]
  | .incH => [0x24]
  | .decH => [0x25]
  | .ldHN n => [0x26, n]
  | .daa => [0x27]
  | .jrZE e => [0x28, e]
  | .addHlHl => [0x29]
  | .ldAMHli => [0x2A]
  | .decHl => [0x2B]
  | .incL => [0x2C]
  | .decL => [0x2D]
  | .ldLN n => [0x2E, n]
  | .cpl => [0x2F]
  | .jrNcE e => [0x30, e]
  | .ldSpNn nn => [0x31, lowByte nn, highByte nn]
  | .ldMHldA => [0x32]
  | .incSp => [0x33]
  | .incMHl => [0x34]
  | .decMHl => [0x35]
  | .ldMHlN n => [0x36, n]
  | .scf => [0x37]
  | .jrCE e => [0x38, e]
  | .addHlSp => [0x39]
  | .ldAMHld => [0x3A]
  | .decSp => [0x3B]
  | .incA => [0x3C]
  | .decA => [0x3D]
  | .ldAN n => [0x3E, n]
  | .ccf => [0x3F]
  | .ldBB => [0x40]
  | .ldBC => [0x41]
  | .ldBD => [0x42]
  | .ldBE => [0x43]
  | .ldBH => [0x44]
  | .ldBL => [0x45]
  | .ldBMHl => [0x46]
  | .ldBA => [0x47]
  | .ldCB => [0x48]
  | .ldCC => [0x49]
  | .ldCD => [0x4A]
  | .ldCE => [0x4B]
  | .ldCH => [0x4C]
  | .ldCL => [0x4D]
  | .ldCMHl => [0x4E]
  | .ldCA => [0x4F]
  | .ldDB => [0x50]
  | .ldDC => [0x51]
  | .ldDD => [0x52]
  | .ldDE => [0x53]
  | .ldDH => [0x54]
  | .ldDL => [0x55]
  | .ldDMHl => [0x56]
  | .ldDA => [0x57]
  | .ldEB => [0x58]
  | .ldEC => [0x59]
  | .ldED => [0x5A]
  | .ldEE => [0x5B]
  | .ldEH => [0x5C]
  | .ldEL => [0x5D]
  | .ldEMHl => [0x5E]
  | .ldEA => [0x5F]
  | .ldHB => [0x60]
  | .ldHC => [0x61]
  | .ldHD => [0x62]
  | .ldHE => [0x63]
  | .ldHH => [0x64]
  | .ldHL => [0x65]
  | .ldHMHl => [0x66]
  | .ldHA => [0x67]
  | .ldLB => [0x68]
  | .ldLC => [0x69]
  | .ldLD => [0x6A]
  | .ldLE => [0x6B]
  | .ldLH => [0x6C]
  | .ldLL => [0x6D]
  | .ldLMHl => [0x6E]
  | .ldLA => [0x6F]
  | .ldMHlB => [0x70]
  | .ldMHlC => [0x71]
  | .ldMHlD => [0x72]
  | .ldMHlE => [0x73]
  | .ldMHlH => [0x74]
  | .ldMHlL => [0x75]
  | .halt => [0x76]
  | .ldMHlA => [0x77]
  | .ldAB => [0x78]
  | .ldAC => [0x79]
  | .ldAD => [0x7A]
  | .ldAE => [0x7B]
  | .ldAH => [0x7C]
  | .ldAL => [0x7D]
  | .ldAMHl => [0x7E]
  | .ldAA => [0x7F]
  | .addAB => [0x80]
  | .addAC => [0x81]
  | .addAD => [0x82]
  | .addAE => [0x83]
  | .addAH => [0x84]
  | .addAL => [0x85]
  | .addAMHl => [0x86]
  | .addAA => [0x87]
  | .adcAB => [0x88]
  | .adcAC => [0x89]
  | .adcAD => [0x8A]
  | .adcAE => [0x8B]
  | .adcAH => [0x8C]
  | .adcAL => [0x8D]
  | .adcAMHl => [0x8E]
  | .adcAA => [0x8F]
  | .subB => [0x90]
  | .subC => [0x91]
  | .subD => [0x92]
  | .subE => [0x93]
  | .subH => [0x94]
  | .subL => [0x95]
  | .subMHl => [0x96]
  | .subA => [0x97]
  | .sbcAB => [0x98]
  | .sbcAC => [0x99]
  | .sbcAD => [0x9A]
  | .sbcAE => [0x9B]
  | .sbcAH => [0x9C]
  | .sbcAL => [0x9D]
  | .sbcAMHl => [0x9E]
  | .sbcAA => [0x9F]
  | .andB => [0xA0]
  | .andC => [0xA1]
  | .andD => [0xA2]
  | .andE => [0xA3]
  | .andH => [0xA4]
  | .andL => [0xA5]
  | .andMHl => [0xA6]
  | .andA => [0xA7]
  | .xorB => [0xA8]
  | .xorC => [0xA9]
  | .xorD => [0xAA]
  | .xorE => [0xAB]
  | .xorH => [0xAC]
  | .xorL => [0xAD]
  | .xorMHl => [0xAE]
  | .xorA => [0xAF]
  | .orB => [0xB0]
  | .orC => [0xB1]
  | .orD => [0xB2]
  | .orE => [0xB3]
  | .orH => [0xB4]
  | .orL => [0xB5]
  | .orMHl => [0xB6]
  | .orA => [0xB7]
  | .cpB => [0xB8]
  | .cpC => [0xB9]
  | .cpD => [0xBA]
  | .cpE => [0xBB]
  | .cpH => [0xBC]
  | .cpL => [0xBD]
  | .cpMHl => [0xBE]
  | .cpA => [0xBF]
  | .retNz => [0xC0]
  | .popBc => [0xC1]
  | .jpNzNn nn => [0xC2, lowByte nn, highByte nn]
  | .jpNn nn => [0xC3, lowByte nn, highByte nn]
  | .callNzNn nn => [0xC4, lowByte nn, highByte nn]
  | .pushBc => [0xC5]
  | .addAN n => [0xC6, n]
  | .rst00 => [0xC7]
  | .retZ => [0xC8]
  | .ret => [0xC9]
  | .jpZNn nn => [0xCA, lowByte nn, highByte nn]
  | .callZNn nn => [0xCC, lowByte nn, highByte nn]
  | .callNn nn => [0xCD, lowByte nn, highByte nn]
  | .adcAN n => [0xCE, n]
  | .rst08 => [0xCF]
  | .retNc => [0xD0]
  | .popDe => [0xD1]
  | .jpNcNn nn => [0xD2, lowByte nn, highByte nn]
  | .illegalD3 => [0xD3]
  | .callNcNn nn => [0xD4, lowByte nn, highByte nn]
  | .pushDe => [0xD5]
  | .subN n => [0xD6, n]
  | .rst10 => [0xD7]
  | .retC => [0xD8]
  | .reti => [0xD9]
  | .jpCNn nn => [0xDA, lowByte nn, highByte nn]
  | .illegalDB => [0xDB]
  | .callCNn nn => [0xDC, lowByte nn, highByte nn]
  | .illegalDD => [0xDD]
  | .sbcAN n => [0xDE, n]
  | .rst18 => [0xDF]
  | .ldhMNA n => [0xE0, n]
  | .popHl => [0xE1]
  | .ldhMCA => [0xE2]
  | .illegalE3 => [0xE3]
  | .illegalE4 => [0xE4]
  | .pushHl => [0xE5]
  | .andN n => [0xE6, n]
  | .rst20 => [0xE7]
  | .addSpE e => [0xE8, e]
  | .jpHl => [0xE9]
  | .ldMNnA nn => [0xEA, lowByte nn, highByte nn]
  | .illegalEB => [0xEB]
  | .illegalEC => [0xEC]
  | .illegalED => [0xED]
  | .xorN n => [0xEE, n]
  | .rst28 => [0xEF]
  | .ldhAMN n => [0xF0, n]
  | .popAf => [0xF1]
  | .ldhAMC => [0xF2]
  | .di => [0xF3]
  | .illegalF4 => [0xF4]
  | .pushAf => [0xF5]
  | .orN n => [0xF6, n]
  | .rst30 => [0xF7]
  | .ldHlSpE e => [0xF8, e]
  | .ldSpHl => [0xF9]
  | .ldAMNn nn => [0xFA, lowByte nn, highByte nn]
  | .ei => [0xFB]
  | .illegalFC => [0xFC]
  | .illegalFD => [0xFD]
  | .cpN n => [0xFE, n]
  | .rst38 => [0xFF]
  | .rlcB => [0xCB, 0x00]
  | .rlcC => [0xCB, 0x01]
  | .rlcD => [0xCB, 0x02]
  | .rlcE => [0xCB, 0x03]
  | .rlcH => [0xCB, 0x04]
  | .rlcL => [0xCB, 0x05]
  | .rlcMHl => [0xCB, 0x06]
  | .rlcA => [0xCB, 0x07]
  | .rrcB => [0xCB, 0x08]
  | .rrcC => [0xCB, 0x09]
  | .rrcD => [0xCB, 0x0A]
  | .rrcE => [0xCB, 0x0B]
  | .rrcH => [0xCB, 0x0C]
  | .rrcL => [0xCB, 0x0D]
  | .rrcMHl => [0xCB, 0x0E]
  | .rrcA => [0xCB, 0x0F]
  | .rlB => [0xCB, 0x10]
  | .rlC => [0xCB, 0x11]
  | .rlD => [0xCB, 0x12]
  | .rlE => [0xCB, 0x13]
  | .rlH => [0xCB, 0x14]
  | .rlL => [0xCB, 0x15]
  | .rlMHl => [0xCB, 0x16]
  | .rlA => [0xCB, 0x17]
  | .rrB => [0xCB, 0x18]
  | .rrC => [0xCB, 0x19]
  | .rrD => [0xCB, 0x1A]
  | .rrE => [0xCB, 0x1B]
  | .rrH => [0xCB, 0x1C]
  | .rrL => [0xCB, 0x1D]
  | .rrMHl => [0xCB, 0x1E]
  | .rrA => [0xCB, 0x1F]
  | .slaB => [0xCB, 0x20]
  | .slaC => [0xCB, 0x21]
  | .slaD => [0xCB, 0x22]
  | .slaE => [0xCB, 0x23]
  | .slaH => [0xCB, 0x24]
  | .slaL => [0xCB, 0x25]
  | .slaMHl => [0xCB, 0x26]
  | .slaA => [0xCB, 0x27]
  | .sraB => [0xCB, 0x28]
  | .sraC => [0xCB, 0x29]
  | .sraD => [0xCB, 0x2A]
  | .sraE => [0xCB, 0x2B]
  | .sraH => [0xCB, 0x2C]
  | .sraL => [0xCB, 0x2D]
  | .sraMHl => [0xCB, 0x2E]
  | .sraA => [0xCB, 0x2F]
  | .swapB => [0xCB, 0x30]
  | .swapC => [0xCB, 0x31]
  | .swapD => [0xCB, 0x32]
  | .swapE => [0xCB, 0x33]
  | .swapH => [0xCB, 0x34]
  | .swapL => [0xCB, 0x35]
  | .swapMHl => [0xCB, 0x36]
  | .swapA => [0xCB, 0x37]
  | .srlB => [0xCB, 0x38]
  | .srlC => [0xCB, 0x39]
  | .srlD => [0xCB, 0x3A]
  | .srlE => [0xCB, 0x3B]
  | .srlH => [0xCB, 0x3C]
  | .srlL => [0xCB, 0x3D]
  | .srlMHl => [0xCB, 0x3E]
  | .srlA => [0xCB, 0x3F]
  | .bit0B => [0xCB, 0x40]
  | .bit0C => [0xCB, 0x41]
  | .bit0D => [0xCB, 0x42]
  | .bit0E => [0xCB, 0x43]
  | .bit0H => [0xCB, 0x44]
  | .bit0L => [0xCB, 0x45]
  | .bit0MHl => [0xCB, 0x46]
  | .bit0A => [0xCB, 0x47]
  | .bit1B => [0xCB, 0x48]
  | .bit1C => [0xCB, 0x49]
  | .bit1D => [0xCB, 0x4A]
  | .bit1E => [0xCB, 0x4B]
  | .bit1H => [0xCB, 0x4C]
  | .bit1L => [0xCB, 0x4D]
  | .bit1MHl => [0xCB, 0x4E]
  | .bit1A => [0xCB, 0x4F]
  | .bit2B => [0xCB, 0x50]
  | .bit2C => [0xCB, 0x51]
  | .bit2D => [0xCB, 0x52]
  | .bit2E => [0xCB, 0x53]
  | .bit2H => [0xCB, 0x54]
  | .bit2L => [0xCB, 0x55]
  | .bit2MHl => [0xCB, 0x56]
  | .bit2A => [0xCB, 0x57]
  | .bit3B => [0xCB, 0x58]
  | .bit3C => [0xCB, 0x59]
  | .bit3D => [0xCB, 0x5A]
  | .bit3E => [0xCB, 0x5B]
  | .bit3H => [0xCB, 0x5C]
  | .bit3L => [0xCB, 0x5D]
  | .bit3MHl => [0xCB, 0x5E]
  | .bit3A => [0xCB, 0x5F]
  | .bit4B => [0xCB, 0x60]
  | .bit4C => [0xCB, 0x61]
  | .bit4D => [0xCB, 0x62]
  | .bit4E => [0xCB, 0x63]
  | .bit4H => [0xCB, 0x64]
  | .bit4L => [0xCB, 0x65]
  | .bit4MHl => [0xCB, 0x66]
  | .bit4A => [0xCB, 0x67]
  | .bit5B => [0xCB, 0x68]
  | .bit5C => [0xCB, 0x69]
  | .bit5D => [0xCB, 0x6A]
  | .bit5E => [0xCB, 0x6B]
  | .bit5H => [0xCB, 0x6C]
  | .bit5L => [0xCB, 0x6D]
  | .bit5MHl => [0xCB, 0x6E]
  | .bit5A => [0xCB, 0x6F]
  | .bit6B => [0xCB, 0x70]
  | .bit6C => [0xCB, 0x71]
  | .bit6D => [0xCB, 0x72]
  | .bit6E => [0xCB, 0x73]
  | .bit6H => [0xCB, 0x74]
  | .bit6L => [0xCB, 0x75]
  | .bit6MHl => [0xCB, 0x76]
  | .bit6A => [0xCB, 0x77]
  | .bit7B => [0xCB, 0x78]
  | .bit7C => [0xCB, 0x79]
  | .bit7D => [0xCB, 0x7A]
  | .bit7E => [0xCB, 0x7B]
  | .bit7H => [0xCB, 0x7C]
  | .bit7L => [0xCB, 0x7D]
  | .bit7MHl => [0xCB, 0x7E]
  | .bit7A => [0xCB, 0x7F]
  | .res0B => [0xCB, 0x80]
  | .res0C => [0xCB, 0x81]
  | .res0D => [0xCB, 0x82]
  | .res0E => [0xCB, 0x83]
  | .res0H => [0xCB, 0x84]
  | .res0L => [0xCB, 0x85]
  | .res0MHl => [0xCB, 0x86]
  | .res0A => [0xCB, 0x87]
  | .res1B => [0xCB, 0x88]
  | .res1C => [0xCB, 0x89]
  | .res1D => [0xCB, 0x8A]
  | .res1E => [0xCB, 0x8B]
  | .res1H => [0xCB, 0x8C]
  | .res1L => [0xCB, 0x8D]
  | .res1MHl => [0xCB, 0x8E]
  | .res1A => [0xCB, 0x8F]
  | .res2B => [0xCB, 0x90]
  | .res2C => [0xCB, 0x91]
  | .res2D => [0xCB, 0x92]
  | .res2E => [0xCB, 0x93]
  | .res2H => [0xCB, 0x94]
  | .res2L => [0xCB, 0x95]
  | .res2MHl => [0xCB, 0x96]
  | .res2A => [0xCB, 0x97]
  | .res3B => [0xCB, 0x98]
  | .res3C => [0xCB, 0x99]
  | .res3D => [0xCB, 0x9A]
  | .res3E => [0xCB, 0x9B]
  | .res3H => [0xCB, 0x9C]
  | .res3L => [0xCB, 0x9D]
  | .res3MHl => [0xCB, 0x9E]
  | .res3A => [0xCB, 0x9F]
  | .res4B => [0xCB, 0xA0]
  | .res4C => [0xCB, 0xA1]
  | .res4D => [0xCB, 0xA2]
  | .res4E => [0xCB, 0xA3]
  | .res4H => [0xCB, 0xA4]
  | .res4L => [0xCB, 0xA5]
  | .res4MHl => [0xCB, 0xA6]
  | .res4A => [0xCB, 0xA7]
  | .res5B => [0xCB, 0xA8]
  | .res5C => [0xCB, 0xA9]
  | .res5D => [0xCB, 0xAA]
  | .res5E => [0xCB, 0xAB]
  | .res5H => [0xCB, 0xAC]
  | .res5L => [0xCB, 0xAD]
  | .res5MHl => [0xCB, 0xAE]
  | .res5A => [0xCB, 0xAF]
  | .res6B => [0xCB, 0xB0]
  | .res6C => [0xCB, 0xB1]
  | .res6D => [0xCB, 0xB2]
  | .res6E => [0xCB, 0xB3]
  | .res6H => [0xCB, 0xB4]
  | .res6L => [0xCB, 0xB5]
  | .res6MHl => [0xCB, 0xB6]
  | .res6A => [0xCB, 0xB7]
  | .res7B => [0xCB, 0xB8]
  | .res7C => [0xCB, 0xB9]
  | .res7D => [0xCB, 0xBA]
  | .res7E => [0xCB, 0xBB]
  | .res7H => [0xCB, 0xBC]
  | .res7L => [0xCB, 0xBD]
  | .res7MHl => [0xCB, 0xBE]
  | .res7A => [0xCB, 0xBF]
  | .set0B => [0xCB, 0xC0]
  | .set0C => [0xCB, 0xC1]
  | .set0D => [0xCB, 0xC2]
  | .set0E => [0xCB, 0xC3]
  | .set0H => [0xCB, 0xC4]
  | .set0L => [0xCB, 0xC5]
  | .set0MHl => [0xCB, 0xC6]
  | .set0A => [0xCB, 0xC7]
  | .set1B => [0xCB, 0xC8]
  | .set1C => [0xCB, 0xC9]
  | .set1D => [0xCB, 0xCA]
  | .set1E => [0xCB, 0xCB]
  | .set1H => [0xCB, 0xCC]
  | .set1L => [0xCB, 0xCD]
  | .set1MHl => [0xCB, 0xCE]
  | .set1A => [0xCB, 0xCF]
  | .set2B => [0xCB, 0xD0]
  | .set2C => [0xCB, 0xD1]
  | .set2D => [0xCB, 0xD2]
  | .set2E => [0xCB, 0xD3]
  | .set2H => [0xCB, 0xD4]
  | .set2L => [0xCB, 0xD5]
  | .set2MHl => [0xCB, 0xD6]
  | .set2A => [0xCB, 0xD7]
  | .set3B => [0xCB, 0xD8]
  | .set3C => [0xCB, 0xD9]
  | .set3D => [0xCB, 0xDA]
  | .set3E => [0xCB, 0xDB]
  | .set3H => [0xCB, 0xDC]
  | .set3L => [0xCB, 0xDD]
  | .set3MHl => [0xCB, 0xDE]
  | .set3A => [0xCB, 0xDF]
  | .set4B => [0xCB, 0xE0]
  | .set4C => [0xCB, 0xE1]
  | .set4D => [0xCB, 0xE2]
  | .set4E => [0xCB, 0xE3]
  | .set4H => [0xCB, 0xE4]
  | .set4L => [0xCB, 0xE5]
  | .set4MHl => [0xCB, 0xE6]
  | .set4A => [0xCB, 0xE7]
  | .set5B => [0xCB, 0xE8]
  | .set5C => [0xCB, 0xE9]
  | .set5D => [0xCB, 0xEA]
  | .set5E => [0xCB, 0xEB]
  | .set5H => [0xCB, 0xEC]
  | .set5L => [0xCB, 0xED]
  | .set5MHl => [0xCB, 0xEE]
  | .set5A => [0xCB, 0xEF]
  | .set6B => [0xCB, 0xF0]
  | .set6C => [0xCB, 0xF1]
  | .set6D => [0xCB, 0xF2]
  | .set6E => [0xCB, 0xF3]
  | .set6H => [0xCB, 0xF4]
  | .set6L => [0xCB, 0xF5]
  | .set6MHl => [0xCB, 0xF6]
  | .set6A => [0xCB, 0xF7]
  | .set7B => [0xCB, 0xF8]
  | .set7C => [0xCB, 0xF9]
  | .set7D => [0xCB, 0xFA]
  | .set7E => [0xCB, 0xFB]
  | .set7H => [0xCB, 0xFC]
  | .set7L => [0xCB, 0xFD]
  | .set7MHl => [0xCB, 0xFE]
  | .set7A => [0xCB, 0xFF]

/-- The length of an instruction in bytes (R116). -/
def Instr.length (i : Instr) : Nat := (encode i).length

/-! ## The opcode table's numbering -/

/-- The bytes of a row of spec/opcode_table.json whose `nbits` bits are `w`, with zeros for the bytes above them. A
16-bit row of the table is a prefixed instruction and its number has `0xCB` in bits 15:8 (R102, the table's `match`);
any other number is read from its low byte up (log entry 5). -/
def tableBytes (nbits w : Nat) : Byte × Byte × Byte :=
  let v := w % 2 ^ nbits
  if 16 ≤ nbits ∧ v / 256 = 0xCB then (0xCB, BitVec.ofNat 8 v, 0)
  else (BitVec.ofNat 8 v, BitVec.ofNat 8 (v / 256), BitVec.ofNat 8 (v / 65536))

/-- The instruction the decoder reads from the word `w` of an opcode-table row of `nbits` bits. -/
def decodeTableWord (nbits w : Nat) : Option Instr :=
  match tableBytes nbits w with
  | (b0, b1, b2) => some (decodeBytes b0 b1 b2)

end Sys2Proof
end

