-- ==== Sys2Proof/Config.lean ====
section
/-! DEFINITION. The implementation parameters of the machine (00_scope.md R6; 92_eei_decisions.md
section 8), each at the value the spec gives it. `CART_RAM_PRESENT` and the cartridge image are parameters of a
RUN and stand in `State`. No parameter is left as a free value: the spec gives no instruction an undefined
result (93_implementation_defined.md, the end of its section 1). -/

namespace Sys2Proof.Config

/-- What a byte of memory that nothing has written reads as. DESIGN CHOICE (unsafe), log entry 1: the spec leaves
`INIT_RAM` open (R445, R446) and its own vectors take it as all zero. -/
def unwritten : Byte := 0x00

/-- `LOCKED_READ`: what the CPU reads from locked video RAM or object-attribute memory (R71, R75, D26). -/
def lockedRead : Byte := 0xFF

/-- `DMA_BLOCKED_READ`: what the CPU reads below `0xFF00` while a transfer is active (R64, D31). -/
def dmaBlockedRead : Byte := 0xFF

/-- `UNUSABLE_READ`: what `0xFEA0..0xFEFF` reads as (R76, D19). -/
def unusableRead : Byte := 0x00

/-- What `0xA000..0xBFFF` reads as when there is no cartridge RAM (R72, D21). -/
def absentRamRead : Byte := 0xFF

/-- `CART_RAM_PRESENT`, its default (D21): the value of the run parameter in the state after reset. -/
def cartRamPresent : Bool := false

/-- `ROM_MIN_SIZE` and `ROM_SIZE`: the bytes of a cartridge image (R70, R401, D21). -/
def romSize : Nat := 0x8000

/-- `MODE2_DOTS`: the dots of object search in a visible line (R312, D23). -/
def mode2Dots : Nat := 80

/-- `MODE3_DOTS`: the dots of pixel transfer in a visible line (R312, D23). -/
def mode3Dots : Nat := 172

/-- `MODE0_DOTS`: the dots of horizontal blank in a visible line (R312, D23). -/
def mode0Dots : Nat := 204

/-- The dots of one scanline (R6). -/
def dotsPerLine : Nat := 456

/-- The scanlines of one frame (R6). -/
def linesPerFrame : Nat := 154

/-- The visible scanlines (R6); the rest are the vertical-blank band. -/
def visibleLines : Nat := 144

/-- The pixels of one row of the framebuffer (R6). -/
def rowPixels : Nat := 160

/-- `SPRITES_PER_LINE` (R357, D28). -/
def spritesPerLine : Nat := 10

/-- `DMA_BYTES`, also `OAM_SIZE` (R6). -/
def dmaBytes : Nat := 160

/-- The cycles of one machine cycle (D4): a transfer copies one byte in that many (R384). -/
def machineCycle : Nat := 4

/-- `INT_DISPATCH_CYCLES` (R412, D15). -/
def dispatchCycles : Nat := 20

/-- The cycles of a step in `Halted` or `Stopped` (R410, D10, D11). -/
def idleCycles : Nat := 4

end Sys2Proof.Config
end

