-- ==== Sys2Proof/Machine/State.lean ====
section
/-! DEFINITION. The state of the whole block (10_state.md R20 to R41): the CPU's registers and control state,
the PPU's and the DMA sequencer's registers and hidden state, and memory, as plain data; the reasons a step can stop;
and the state after reset (70_reset_and_hazards.md R440 to R447). -/

namespace Sys2Proof.Machine

/-- Memory as address and byte pairs in one canonical form (`Memory.wf`). An address is the CPU address of a storage
cell of R40; an address that is not listed reads as `Config.unwritten`. -/
abbrev Memory := List Host.Cell

/-- `run_state` (R34). `faulted` records the opcode and the address of the `IllegalOpcode` that every later step
reports again (R400, R410). -/
inductive RunState where
  | running
  | halted
  | stopped
  | faulted (op : Byte) (addr : Word)
  deriving DecidableEq, Repr

/-- `ppu.mode`, the four scanline phases (R303). -/
inductive Mode where
  | hblank
  | vblank
  | oamSearch
  | pixelTransfer
  deriving DecidableEq, Repr

/-- A 2-bit shade of the framebuffer, or a 2-bit colour index (R361, R364). -/
abbrev Shade := BitVec 2

/-- One row of the framebuffer. -/
abbrev FbRow := Vector Shade Config.rowPixels

/-- The PPU's registers and hidden state (R309). -/
structure Ppu where
  /-- `LCDC`, `0xFF40` (R300). -/
  lcdc : Byte
  /-- `stat_en`, the stored bits 6:3 of `STAT` (R301): bit 0 `en_mode0`, 1 `en_mode1`, 2 `en_mode2`, 3 `en_lyc`. -/
  statEn : BitVec 4
  /-- `SCY`, `0xFF42` (R302). -/
  scy : Byte
  /-- `SCX`, `0xFF43` (R302). -/
  scx : Byte
  /-- `LY`, the scanline index 0..153 (R305). -/
  ly : Nat
  /-- `LYC`, `0xFF45` (R306). -/
  lyc : Byte
  /-- `BGP`, `0xFF47` (R307). -/
  bgp : Byte
  /-- `OBP0`, `0xFF48` (R307). -/
  obp0 : Byte
  /-- `OBP1`, `0xFF49` (R307). -/
  obp1 : Byte
  /-- `WY`, `0xFF4A` (R308). -/
  wy : Byte
  /-- `WX`, `0xFF4B` (R308). -/
  wx : Byte
  /-- `ppu.dot`, 0..455 (R304). -/
  dot : Nat
  /-- `ppu.mode` (R303). -/
  mode : Mode
  /-- `ppu.stat_line`, the STAT condition at the previous dot (R316). -/
  statLine : Bool
  /-- `ppu.win_line`, the window row to draw next, 0..144 (R356). -/
  winLine : Nat
  /-- `fb`, 144 rows of 160 shades (R364), row 0 the top, column 0 the left. -/
  fb : Vector FbRow Config.visibleLines
  deriving DecidableEq, Repr

/-- The DMA sequencer's state (R380). -/
structure Dma where
  /-- `dma.active`. -/
  active : Bool
  /-- `dma.src`, the last byte written to `0xFF46`. -/
  src : Byte
  /-- `dma.offset`, the index 0..159 of the next byte to copy. -/
  offset : Nat
  /-- `dma.sub`, the cycles 0..3 accumulated toward the next byte. -/
  sub : Nat
  deriving DecidableEq, Repr

/-- The state of the block. All but the last two fields are the spec's own; those two are the model's. -/
structure State where
  /-- The eight 8-bit registers (R20); `f` is the flag register, its low nibble always zero (R27, R28). -/
  a : Byte
  f : Byte
  b : Byte
  c : Byte
  d : Byte
  e : Byte
  h : Byte
  l : Byte
  /-- The stack pointer (R24). -/
  sp : Word
  /-- The program counter (R25). -/
  pc : Word
  /-- `IME` (R30). -/
  ime : Bool
  /-- `ime_delay`, 0, 1 or 2 (R33). -/
  imeDelay : Nat
  /-- `IE`, `0xFFFF` (R31). -/
  ie : Byte
  /-- `IF`, the five stored bits of `0xFF0F` (R32). -/
  ifr : BitVec 5
  /-- `run_state` (R34). -/
  runState : RunState
  /-- `halt_bug` (R35). -/
  haltBug : Bool
  /-- The PPU (R36, R41, R309). -/
  ppu : Ppu
  /-- The DMA sequencer (R37, R41, R380). -/
  dma : Dma
  /-- `rom`, `vram`, `cart_ram`, `wram`, `oam`, `io` and `hram` (R40), each byte at its CPU address. -/
  mem : Memory
  /-- `CART_RAM_PRESENT`, a parameter of the run (R42): no step writes it. -/
  cartRamPresent : Bool
  /-- The model's own: the masks of the external `RequestInterrupts` calls still to come, one taken at the end of each
  step (R405, U17; log entry 3). -/
  extRequests : List Byte
  /-- The model's own: the cycle count the last CPU step returned (R410), which the system step feeds on (R8; log
  entry 4). -/
  cycles : Nat
  deriving DecidableEq, Repr

/-- Why the machine stops. -/
inductive Fault where
  /-- `IllegalOpcode(op, addr)` (R400), raised by the eleven unassigned opcode bytes, and reported again by every
  step of a machine whose `run_state` is `Faulted`. `final` is the machine as the fault leaves it. Safe: the spec
  itself ends the run here. -/
  | illegalOpcode (op : Byte) (addr : Word) (final : State)
  deriving DecidableEq, Repr

/-- Why an instruction has no meaning. -/
inductive Refusal where
  /-- An instruction of the table that has no meaning in this model. Safe. Raised by no arm: every instruction has
  one. -/
  | notModelled (mnemonic : String)
  deriving DecidableEq, Repr

/-- The outcome of an instruction or of a step. -/
abbrev Result := Host.Outcome State Fault Refusal

/-- The PPU after reset (R443, R447): the reference hardware's registers, and the very beginning of a frame. -/
def Ppu.reset : Ppu where
  lcdc := 0x91
  statEn := 0
  scy := 0x00
  scx := 0x00
  ly := 0
  lyc := 0x00
  bgp := 0xFC
  obp0 := 0xFF
  obp1 := 0xFF
  wy := 0x00
  wx := 0x00
  dot := 0
  mode := .oamSearch
  statLine := false
  winLine := 0
  fb := Vector.replicate _ (Vector.replicate _ 0)

/-- The DMA sequencer after reset (R444). -/
def Dma.reset : Dma where
  active := false
  src := 0xFF
  offset := 0
  sub := 0

/-- The machine right after reset (R441 to R447), with the cartridge image and `INIT_RAM` all `Config.unwritten`
(log entries 1 and 2). -/
def State.reset : State where
  a := 0x01
  f := 0xB0
  b := 0x00
  c := 0x13
  d := 0x00
  e := 0xD8
  h := 0x01
  l := 0x4D
  sp := 0xFFFE
  pc := 0x0100
  ime := false
  imeDelay := 0
  ie := 0x00
  ifr := 0
  runState := .running
  haltBug := false
  ppu := Ppu.reset
  dma := Dma.reset
  mem := []
  cartRamPresent := Config.cartRamPresent
  extRequests := []
  cycles := 0

end Sys2Proof.Machine
end

