-- ==== Sys2Proof/Machine/Mem.lean ====
section
/-! DEFINITION. Memory as a sorted list of written bytes: one read, one write, the canonical form, and which addresses
have a storage cell behind them (10_state.md R40; 20_memory.md R61, R77). -/

namespace Sys2Proof.Machine

/-- The byte at an address; an address that is not listed reads as `Config.unwritten`. -/
def Memory.read : Memory → Nat → Byte
  | [], _ => Config.unwritten
  | (k, w) :: m, a => if a = k then w else Memory.read m a

/-- `m` with the byte `v` at the address `a`, in the canonical form: writing what an unlisted address reads as removes
the entry. -/
def Memory.write : Memory → Nat → Byte → Memory
  | [], a, v => if v = Config.unwritten then [] else [(a, v)]
  | (k, w) :: m, a, v =>
    if a < k then (if v = Config.unwritten then (k, w) :: m else (a, v) :: (k, w) :: m)
    else if a = k then (if v = Config.unwritten then m else (a, v) :: m)
    else (k, w) :: Memory.write m a v

/-- The canonical form: addresses strictly rising, and no entry equal to what an unlisted address reads as. -/
abbrev Memory.wf (m : Memory) : Prop :=
  m.Pairwise (fun p q => p.1 < q.1) ∧ ∀ p ∈ m, p.2 ≠ Config.unwritten

/-- The list of `bytes` from the address `k` up, in the canonical form. -/
def Memory.ofBytes : Nat → List Byte → Memory
  | _, [] => []
  | k, v :: vs =>
    if v = Config.unwritten then Memory.ofBytes (k + 1) vs else (k, v) :: Memory.ofBytes (k + 1) vs

/-- The addresses of `0xFF00..0xFF7F` that name a register (R77); the other 115 are plain cells (R81). -/
def isIoRegister (a : Nat) : Bool := a == 0xFF0F || (0xFF40 ≤ a && a ≤ 0xFF4B)

/-- The addresses with a storage cell of R40 behind them: ROM, video RAM, cartridge RAM, work RAM, object-attribute
memory, the unassigned I/O cells and high RAM. The echo range shares work RAM's cells (R74), and the registers and the
unusable range have none. -/
def isCell (a : Nat) : Bool :=
  a < 0xE000 || (0xFE00 ≤ a && a < 0xFEA0) || (0xFF00 ≤ a && a < 0xFF80 && !isIoRegister a) ||
    (0xFF80 ≤ a && a < 0xFFFF)

/-- Every listed address has a storage cell behind it. -/
abbrev Memory.backed (m : Memory) : Prop := ∀ p ∈ m, isCell p.1 = true

end Sys2Proof.Machine
end

