-- ==== Sys2Proof/Machine/Lcd.lean ====
section
/-! DEFINITION. The PPU's registers as the bus reaches them (47_ppu_mode_controller.md R300 to R308, R317, R318) and
the memory locks its mode imposes (R320). -/

namespace Sys2Proof.Machine

/-- `LCDC[7]`, `lcd_on` (R300). -/
def Ppu.lcdOn (p : Ppu) : Bool := p.lcdc.getLsbD 7

/-- The code of a mode in `STAT[1:0]` (R303). -/
def Mode.code : Mode → BitVec 2
  | .hblank => 0
  | .vblank => 1
  | .oamSearch => 2
  | .pixelTransfer => 3

/-- `LY = LYC` (R301, R306); a compare value above 153 never matches. -/
def Ppu.lycEq (p : Ppu) : Bool := p.ly == p.lyc.toNat

/-- A read of `STAT` (R301): `1 ## stat_en ## (LY = LYC) ## mode`. -/
def Ppu.readStat (p : Ppu) : Byte := 1#1 ++ p.statEn ++ BitVec.ofBool p.lycEq ++ p.mode.code

/-- A read of `LY` (R305). -/
def Ppu.readLy (p : Ppu) : Byte := BitVec.ofNat 8 p.ly

/-- A write of `STAT` stores bits 6:3 only, and raises nothing (R301). -/
def Ppu.writeStat (p : Ppu) (v : Byte) : Ppu := { p with statEn := v.extractLsb' 3 4 }

/-- A write of `LCDC` (R318): bit 7 going off or on restarts the counters, with the mode set without entry. -/
def Ppu.writeLcdc (p : Ppu) (v : Byte) : Ppu :=
  if p.lcdOn = v.getLsbD 7 then { p with lcdc := v }
  else
    { p with
      lcdc := v
      ly := 0
      dot := 0
      mode := if v.getLsbD 7 then .oamSearch else .hblank
      statLine := false
      winLine := 0 }

/-- `VramLocked()` (R320). -/
def Ppu.vramLocked (p : Ppu) : Bool := p.lcdOn && p.mode == .pixelTransfer

/-- `OamLocked()` (R320). -/
def Ppu.oamLocked (p : Ppu) : Bool := p.lcdOn && (p.mode == .oamSearch || p.mode == .pixelTransfer)

end Sys2Proof.Machine
end

