-- ==== Sys2Proof/Machine/Bus.lean ====
section
/-! DEFINITION. The memory-bus dispatcher and arbiter (20_memory.md): which region owns an address, what a CPU read and a
CPU write of one byte do there, and the DMA sequencer's own read port. No read has a side effect (R89). -/

namespace Sys2Proof.Machine

/-- The rows of the partition of the address space (R61). -/
inductive Region where
  | rom
  | vram
  | cartRam
  | wram
  | echo
  | oam
  | unusable
  | io
  | hram
  | ie
  deriving DecidableEq, Repr

/-- The one owner of an address (R61). -/
def regionOf (a : Word) : Region :=
  if a.toNat < 0x8000 then .rom
  else if a.toNat < 0xA000 then .vram
  else if a.toNat < 0xC000 then .cartRam
  else if a.toNat < 0xE000 then .wram
  else if a.toNat < 0xFE00 then .echo
  else if a.toNat < 0xFEA0 then .oam
  else if a.toNat < 0xFF00 then .unusable
  else if a.toNat < 0xFF80 then .io
  else if a.toNat < 0xFFFF then .hram
  else .ie

/-- The registers of `0xFF00..0xFF7F` by address (R77); `cell` is an unassigned cell (R81). -/
inductive IoReg where
  | ifr
  | lcdc
  | stat
  | scy
  | scx
  | ly
  | lyc
  | dma
  | bgp
  | obp0
  | obp1
  | wy
  | wx
  | cell
  deriving DecidableEq, Repr

/-- The register at an address of `0xFF00..0xFF7F` (R77). -/
def ioRegOf (a : Word) : IoReg :=
  if a = 0xFF0F then .ifr
  else if a = 0xFF40 then .lcdc
  else if a = 0xFF41 then .stat
  else if a = 0xFF42 then .scy
  else if a = 0xFF43 then .scx
  else if a = 0xFF44 then .ly
  else if a = 0xFF45 then .lyc
  else if a = 0xFF46 then .dma
  else if a = 0xFF47 then .bgp
  else if a = 0xFF48 then .obp0
  else if a = 0xFF49 then .obp1
  else if a = 0xFF4A then .wy
  else if a = 0xFF4B then .wx
  else .cell

/-- The storage cell that an address of the memory regions reads and writes: an echo address is that of the work RAM
cell it aliases (R74), any other its own. -/
def cellOf (a : Word) : Nat := if regionOf a = .echo then a.toNat - 0x2000 else a.toNat

/-- A read of an address of `0xFF00..0xFF7F` (R77, R78, R80, R81, R83). -/
def readIo (s : State) (a : Word) : Byte :=
  match ioRegOf a with
  | .ifr => 0b111#3 ++ s.ifr
  | .lcdc => s.ppu.lcdc
  | .stat => s.ppu.readStat
  | .scy => s.ppu.scy
  | .scx => s.ppu.scx
  | .ly => s.ppu.readLy
  | .lyc => s.ppu.lyc
  | .dma => s.dma.src
  | .bgp => s.ppu.bgp
  | .obp0 => s.ppu.obp0
  | .obp1 => s.ppu.obp1
  | .wy => s.ppu.wy
  | .wx => s.ppu.wx
  | .cell => s.mem.read a.toNat

/-- `RegionRead(a)` (R70 to R82), with the PPU lock checks of R71 and R75. -/
def regionRead (s : State) (a : Word) : Byte :=
  match regionOf a with
  | .rom => s.mem.read (cellOf a)
  | .vram => if s.ppu.vramLocked then Config.lockedRead else s.mem.read (cellOf a)
  | .cartRam => if s.cartRamPresent then s.mem.read (cellOf a) else Config.absentRamRead
  | .wram => s.mem.read (cellOf a)
  | .echo => s.mem.read (cellOf a)
  | .oam => if s.ppu.oamLocked then Config.lockedRead else s.mem.read (cellOf a)
  | .unusable => Config.unusableRead
  | .io => readIo s a
  | .hram => s.mem.read (cellOf a)
  | .ie => s.ie

/-- The bus refuses the CPU: a transfer is active and the address is below `0xFF00` (R64). -/
def dmaBlocks (s : State) (a : Word) : Bool := s.dma.active && a.toNat < 0xFF00

/-- `MemRead(addr, 1)`, every CPU read: opcode and operand fetch, loads, pops (R62). -/
def cpuRead (s : State) (a : Word) : Byte := if dmaBlocks s a then Config.dmaBlockedRead else regionRead s a

/-- `DmaTrigger(v)` (49_dma_sequencer.md R382). -/
def dmaTrigger (s : State) (v : Byte) : State :=
  { s with dma := { active := true, src := v, offset := 0, sub := 0 } }

/-- `s` with the byte `v` in the storage cell of the address `a`. -/
def storeCell (s : State) (a : Word) (v : Byte) : State := { s with mem := s.mem.write (cellOf a) v }

/-- A write of an address of `0xFF00..0xFF7F` (R77, R78, R80, R81, R83): `IF` keeps five bits, `LY` keeps nothing
(R305), `DMA` starts a transfer. -/
def writeIo (s : State) (a : Word) (v : Byte) : State :=
  match ioRegOf a with
  | .ifr => { s with ifr := v.setWidth 5 }
  | .lcdc => { s with ppu := s.ppu.writeLcdc v }
  | .stat => { s with ppu := s.ppu.writeStat v }
  | .scy => { s with ppu := { s.ppu with scy := v } }
  | .scx => { s with ppu := { s.ppu with scx := v } }
  | .ly => s
  | .lyc => { s with ppu := { s.ppu with lyc := v } }
  | .dma => dmaTrigger s v
  | .bgp => { s with ppu := { s.ppu with bgp := v } }
  | .obp0 => { s with ppu := { s.ppu with obp0 := v } }
  | .obp1 => { s with ppu := { s.ppu with obp1 := v } }
  | .wy => { s with ppu := { s.ppu with wy := v } }
  | .wx => { s with ppu := { s.ppu with wx := v } }
  | .cell => storeCell s a v

/-- `RegionWrite(a, v)` (R70 to R82): ROM, the unusable range, absent cartridge RAM and locked memory keep nothing. -/
def regionWrite (s : State) (a : Word) (v : Byte) : State :=
  match regionOf a with
  | .rom => s
  | .vram => if s.ppu.vramLocked then s else storeCell s a v
  | .cartRam => if s.cartRamPresent then storeCell s a v else s
  | .wram => storeCell s a v
  | .echo => storeCell s a v
  | .oam => if s.ppu.oamLocked then s else storeCell s a v
  | .unusable => s
  | .io => writeIo s a v
  | .hram => storeCell s a v
  | .ie => { s with ie := v }

/-- `MemWrite(addr, 1, v)`, every CPU write: stores, pushes, the pushes of a dispatch (R63). -/
def cpuWrite (s : State) (a : Word) (v : Byte) : State := if dmaBlocks s a then s else regionWrite s a v

/-- `MemRead(addr, 2)`: the lower address first, the byte there the low one (R85, R86). -/
def cpuRead16 (s : State) (a : Word) : Word := wordOf (cpuRead s (a + 1)) (cpuRead s a)

/-- `MemWrite(addr, 2, v)`: the low byte at the lower address, first (R85, R86). -/
def cpuWrite16 (s : State) (a v : Word) : State := cpuWrite (cpuWrite s a (lowByte v)) (a + 1) (highByte v)

/-- `DmaRead(addr)` (R84, R386): pages `0xE0..0xFF` read work RAM at the address minus `0x2000`; no lock and no
arbitration applies. -/
def dmaRead (s : State) (addr : Nat) : Byte :=
  let a := if 0xE000 ≤ addr then addr - 0x2000 else addr
  if 0xA000 ≤ a ∧ a < 0xC000 ∧ s.cartRamPresent = false then Config.absentRamRead else s.mem.read a

end Sys2Proof.Machine
end

