-- ==== Sys2Proof/Machine/DmaUnit.lean ====
section
/-! DEFINITION. The DMA sequencer's tick (49_dma_sequencer.md R384 to R392); its trigger is a write of the bus
(`dmaTrigger`). -/

namespace Sys2Proof.Machine

/-- `DmaCopyByte()` (R385): the destination is object-attribute memory, whatever the PPU's lock (R390); after the 160th
byte the transfer ends (R387). -/
def dmaCopyByte (s : State) : State :=
  let t := { s with mem := s.mem.write (0xFE00 + s.dma.offset) (dmaRead s (s.dma.src.toNat * 256 + s.dma.offset)) }
  if s.dma.offset + 1 = Config.dmaBytes then { t with dma := { s.dma with active := false, offset := 0 } }
  else { t with dma := { s.dma with offset := s.dma.offset + 1 } }

/-- One cycle of an active transfer (R384): every fourth one copies a byte. -/
def dmaCycle (s : State) : State :=
  if s.dma.sub + 1 = Config.machineCycle then dmaCopyByte { s with dma := { s.dma with sub := 0 } }
  else { s with dma := { s.dma with sub := s.dma.sub + 1 } }

/-- `DmaTick(cycles)` (R384): cycles beyond the end of the transfer are discarded. -/
def dmaTick : Nat → State → State
  | 0, s => s
  | n + 1, s => if s.dma.active then dmaTick n (dmaCycle s) else s

end Sys2Proof.Machine
end

