-- ==== Sys2Proof/Machine/Flags.lean ====
section
/-! DEFINITION. The flag register and every result-and-flags computation: the arithmetic functions R176, R177, R219, the
16-bit addition R215, `DAA` (R208) and the rotates and shifts (R220 to R231). Sums are exact and narrowed at the end. -/

namespace Sys2Proof.Machine

/-- The byte of the flag register: `Z N H C` in bits 7:4, bits 3:0 zero (R27, R28). -/
def flagByte (z n h c : Bool) : Byte :=
  BitVec.ofBool z ++ BitVec.ofBool n ++ BitVec.ofBool h ++ BitVec.ofBool c ++ 0#4

/-- `fZ` (R27). -/
def State.fZ (s : State) : Bool := s.f.getLsbD 7

/-- `fN` (R27). -/
def State.fN (s : State) : Bool := s.f.getLsbD 6

/-- `fH` (R27). -/
def State.fH (s : State) : Bool := s.f.getLsbD 5

/-- `fC` (R27). -/
def State.fC (s : State) : Bool := s.f.getLsbD 4

/-- `s` with the four flags. -/
def State.setFlags (s : State) (z n h c : Bool) : State := { s with f := flagByte z n h c }

/-- A result with the flags it computes. -/
structure Alu where
  r : Byte
  z : Bool
  h : Bool
  c : Bool
  deriving DecidableEq, Repr

/-- `Add8(a, b, cin)` (R176). -/
def add8 (a b : Byte) (cin : Bool) : Alu :=
  let s := a.toNat + b.toNat + cin.toNat
  let r := BitVec.ofNat 8 s
  { r := r, z := r == 0, h := 0x0F < a.toNat % 16 + b.toNat % 16 + cin.toNat, c := 0xFF < s }

/-- `Sub8(a, b, cin)` (R177): the half-carry and the carry are borrows. -/
def sub8 (a b : Byte) (cin : Bool) : Alu :=
  let d : Int := a.toNat - b.toNat - cin.toNat
  let r := BitVec.ofInt 8 d
  { r := r, z := r == 0, h := a.toNat % 16 < b.toNat % 16 + cin.toNat, c := d < 0 }

/-- A 16-bit result with the half-carry and the carry it computes. -/
structure Alu16 where
  r : Word
  h : Bool
  c : Bool
  deriving DecidableEq, Repr

/-- The sum of `ADD HL,rr` (R215): half-carry out of bit 11, carry out of bit 15. -/
def add16 (a b : Word) : Alu16 :=
  { r := BitVec.ofNat 16 (a.toNat + b.toNat)
    h := 0x0FFF < a.toNat % 0x1000 + b.toNat % 0x1000
    c := 0xFFFF < a.toNat + b.toNat }

/-- `SpPlusE(sp, e)` (R219): a signed sum, with the flags of the unsigned sum of the low bytes. -/
def spPlusE (sp : Word) (e : Byte) : Alu16 :=
  { r := BitVec.ofInt 16 (sp.toNat + e.toInt)
    h := 0x0F < sp.toNat % 16 + e.toNat % 16
    c := 0xFF < sp.toNat % 256 + e.toNat }

/-- `DAA` (R208): the adjusted `A` and the new carry. Both tests use the `A` before the adjustment. -/
def daaAdjust (a : Byte) (n h c : Bool) : Byte × Bool :=
  let low : Byte := if h || (!n && 0x09 < a.toNat % 16) then 0x06 else 0x00
  let upper := c || (!n && 0x99 < a.toNat)
  let corr : Byte := if upper then low ||| 0x60 else low
  (if n then a - corr else a + corr, upper)

/-- The shifted byte and the bit shifted out, for each prefixed rotate and shift (R224 to R231); `cin` is `fC`. `SWAP`
shifts nothing out (R230). -/
def shift8 (op : ShiftOp) (v : Byte) (cin : Bool) : Byte × Bool :=
  match op with
  | .rlc => (v.extractLsb' 0 7 ++ BitVec.ofBool (v.getLsbD 7), v.getLsbD 7)
  | .rrc => (BitVec.ofBool (v.getLsbD 0) ++ v.extractLsb' 1 7, v.getLsbD 0)
  | .rl => (v.extractLsb' 0 7 ++ BitVec.ofBool cin, v.getLsbD 7)
  | .rr => (BitVec.ofBool cin ++ v.extractLsb' 1 7, v.getLsbD 0)
  | .sla => (v.extractLsb' 0 7 ++ 0#1, v.getLsbD 7)
  | .sra => (BitVec.ofBool (v.getLsbD 7) ++ v.extractLsb' 1 7, v.getLsbD 0)
  | .swap => (v.extractLsb' 0 4 ++ v.extractLsb' 4 4, false)
  | .srl => (0#1 ++ v.extractLsb' 1 7, v.getLsbD 0)

end Sys2Proof.Machine
end

