-- ==== Sys2Proof/Machine/Operands.lean ====
section
/-! DEFINITION. The operand forms: registers, pairs and their halves (10_state.md R20 to R23), the selectors R104 to
R107 as reads and writes of the state, and the memory operand at `HL`. -/

namespace Sys2Proof.Machine

/-- A register of R104. -/
def State.r8 (s : State) : R8 → Byte
  | .b => s.b
  | .c => s.c
  | .d => s.d
  | .e => s.e
  | .h => s.h
  | .l => s.l
  | .a => s.a

/-- `s` with a register of R104 written. -/
def State.setR8 (s : State) (r : R8) (v : Byte) : State :=
  match r with
  | .b => { s with b := v }
  | .c => { s with c := v }
  | .d => { s with d := v }
  | .e => { s with e := v }
  | .h => { s with h := v }
  | .l => { s with l := v }
  | .a => { s with a := v }

/-- `BC = B ## C` (R22). -/
def State.bc (s : State) : Word := wordOf s.b s.c

/-- `DE = D ## E` (R22). -/
def State.de (s : State) : Word := wordOf s.d s.e

/-- `HL = H ## L` (R22). -/
def State.hl (s : State) : Word := wordOf s.h s.l

/-- `AF = A ## F` (R22). -/
def State.af (s : State) : Word := wordOf s.a s.f

/-- `HL <- v`: both halves at once (R22). -/
def State.setHl (s : State) (v : Word) : State := { s with h := highByte v, l := lowByte v }

/-- A pair of R105. -/
def State.r16 (s : State) : R16 → Word
  | .bc => s.bc
  | .de => s.de
  | .hl => s.hl
  | .sp => s.sp

/-- `s` with a pair of R105 written. -/
def State.setR16 (s : State) (r : R16) (v : Word) : State :=
  match r with
  | .bc => { s with b := highByte v, c := lowByte v }
  | .de => { s with d := highByte v, e := lowByte v }
  | .hl => s.setHl v
  | .sp => { s with sp := v }

/-- A pair of R106. -/
def State.r16stk (s : State) : R16Stk → Word
  | .bc => s.bc
  | .de => s.de
  | .hl => s.hl
  | .af => s.af

/-- `s` with a pair of R106 written; a write of `AF` stores zeros in the low nibble of `F` (R28, R165). -/
def State.setR16stk (s : State) (r : R16Stk) (v : Word) : State :=
  match r with
  | .bc => { s with b := highByte v, c := lowByte v }
  | .de => { s with d := highByte v, e := lowByte v }
  | .hl => s.setHl v
  | .af => { s with a := highByte v, f := lowByte v &&& 0xF0 }

/-- `cond(i)` (R107). -/
def State.cond (s : State) : Cond → Bool
  | .nz => !s.fZ
  | .z => s.fZ
  | .nc => !s.fC
  | .c => s.fC

/-- The memory operand `(HL)`, read through the bus (R104). -/
def State.memHl (s : State) : Byte := cpuRead s s.hl

/-- The memory operand `(HL)`, written through the bus (R104). -/
def State.setMemHl (s : State) (v : Byte) : State := cpuWrite s s.hl v

/-- The high-page address of an 8-bit offset (R110, R146 to R149). -/
def highPage (n : Byte) : Word := wordOf 0xFF n

/-- `sext_8(e)` added to an address (R112). -/
def addDisplacement (a : Word) (e : Byte) : Word := BitVec.ofInt 16 (a.toNat + e.toInt)

end Sys2Proof.Machine
end

