-- ==== Sys2Proof/Machine/Ops.lean ====
section
/-! DEFINITION. The operations that instructions and the CPU step share: the stack (R166, R167), the interrupt state (R404
to R412), taking an interrupt and returning from one, and the one synchronous exception (R400). -/

namespace Sys2Proof.Machine

/-- `cycles <- n`, the end of every instruction (R10, R410): the next state, and the count the step returns. -/
def done (n : Nat) (s : State) : Result := .next { s with cycles := n }

/-! ## The stack -/

/-- The first half of `Push16`: `SP <- SP - 1`, then a byte at `SP`; `SP` moves whether or not the bus accepts the
byte (R166). -/
def pushByte (s : State) (v : Byte) : State := cpuWrite { s with sp := s.sp - 1 } (s.sp - 1) v

/-- `Push16(v)` (R166): the high byte first, at the higher address. -/
def push16 (s : State) (v : Word) : State := pushByte (pushByte s (highByte v)) (lowByte v)

/-- The word `Pop16()` returns (R167): the byte at `SP` is the low one. -/
def popWord (s : State) : Word := cpuRead16 s s.sp

/-- `SP` after `Pop16()` (R167). -/
def popped (s : State) : State := { s with sp := s.sp + 2 }

/-! ## Interrupts -/

/-- `pending`, `IE & IF & 0x1F` (R404). -/
def State.pending (s : State) : BitVec 5 := s.ie.setWidth 5 &&& s.ifr

/-- `RequestInterrupts(mask)` (R405): ORs bits 4:0 in, clears none. -/
def requestInterrupts (mask : Byte) (s : State) : State := { s with ifr := s.ifr ||| mask.setWidth 5 }

/-- The lowest-numbered source of a set of pending ones (R408); 4 where none is lower. -/
def lowestSource (pending : BitVec 5) : Nat :=
  if pending.getLsbD 0 then 0
  else if pending.getLsbD 1 then 1
  else if pending.getLsbD 2 then 2
  else if pending.getLsbD 3 then 3
  else 4

/-- The service address of source `n`: `0x0040 + 8 * n` (R413). -/
def serviceAddress (n : Nat) : Word := BitVec.ofNat 16 (0x0040 + 8 * n)

/-- `Dispatch(pending)`, taking an interrupt (R412): clears the request, the master enable, the pending enable and the wait
quirk, pushes `PC` and goes to the service address; 20 cycles. -/
def dispatch (s : State) : State :=
  let n := lowestSource s.pending
  let t :=
    { s with ifr := s.ifr &&& ~~~(1#5 <<< n), ime := false, imeDelay := 0, haltBug := false }
  { push16 t s.pc with pc := serviceAddress n, cycles := Config.dispatchCycles }

/-- `PC <- Pop16()`, the return of `RET`, `RET cc` and `RETI` (R257 to R259). -/
def returnFrom (s : State) : State := { popped s with pc := popWord s }

/-- `Push16(PC); PC <- target`, the transfer of `CALL` and `RST` (R255, R260). -/
def callTo (s : State) (target : Word) : State := { push16 s s.pc with pc := target }

/-- `IME <- 1, ime_delay <- 0`, at once: what `RETI` adds to a return (R259, R415). -/
def enableAtOnce (s : State) : State := { s with ime := true, imeDelay := 0 }

/-! ## The synchronous exception -/

/-- `raise IllegalOpcode(op, PC)` (R277, R400): `run_state <- Faulted`, nothing else changes, and the run ends. -/
def illegalOpcode (op : Byte) (s : State) : Result :=
  .fault (.illegalOpcode op s.pc { s with runState := .faulted op s.pc })

end Sys2Proof.Machine
end

