-- ==== Sys2Proof/Machine/Render.lean ====
section
/-! DEFINITION. The scanline renderer (48_ppu_render.md): one row of the framebuffer as a function of the PPU's registers,
video RAM and object-attribute memory at the call (R351). Addresses are CPU addresses; the renderer owns the memory it
reads and no lock applies to it. -/

namespace Sys2Proof.Machine

/-- The shade of the colour index `ci` in the palette `pal`: `(pal >> (2 * ci)) & 3` (R361). -/
def shadeOf (pal : Byte) (ci : BitVec 2) : Shade := (pal >>> (2 * ci.toNat)).setWidth 2

/-! ## Tiles -/

/-- `TileBase(t, for_sprite)` (R353): unsigned from `0x8000`, or signed from `0x9000`. -/
def tileBase (p : Ppu) (t : Byte) (forSprite : Bool) : Nat :=
  if forSprite || p.lcdc.getLsbD 4 then 0x8000 + 16 * t.toNat else (0x9000 + 16 * t.toInt).toNat

/-- `TilePixel(base, r, c)` (R354): the first byte of a row holds the low bits, bit 7 the leftmost pixel. -/
def tilePixel (mem : Memory) (base r c : Nat) : BitVec 2 :=
  BitVec.ofBool ((mem.read (base + 2 * r + 1)).getLsbD (7 - c)) ++ BitVec.ofBool ((mem.read (base + 2 * r)).getLsbD (7 - c))

/-! ## Background and window -/

/-- The base of a 32 x 32 tile map: `0x9C00` when its select bit is set, else `0x9800` (R352, R355). -/
def mapBase (select : Bool) : Nat := if select then 0x9C00 else 0x9800

/-- The colour index at column `px` and row `py` of the plane whose map is at `map` (R352, R355). -/
def planePixel (p : Ppu) (mem : Memory) (map px py : Nat) : BitVec 2 :=
  tilePixel mem (tileBase p (mem.read (map + 32 * (py / 8) + px / 8)) false) (py % 8) (px % 8)

/-- `BgPixel(x, ly)` (R352): the plane wraps at 256 in both directions. -/
def bgPixel (p : Ppu) (mem : Memory) (ly x : Nat) : BitVec 2 :=
  planePixel p mem (mapBase (p.lcdc.getLsbD 3)) ((p.scx.toNat + x) % 256) ((p.scy.toNat + ly) % 256)

/-- `WindowCovers(x, ly)` (R355). -/
def windowCovers (p : Ppu) (ly x : Nat) : Bool :=
  p.lcdc.getLsbD 5 && p.wy.toNat ≤ ly && p.wx.toNat ≤ x + 7

/-- `WindowPixel(x)` (R355): the window's row is its own line counter (R356). -/
def windowPixel (p : Ppu) (mem : Memory) (x : Nat) : BitVec 2 :=
  planePixel p mem (mapBase (p.lcdc.getLsbD 6)) (x + 7 - p.wx.toNat) p.winLine

/-! ## Sprites -/

/-- One entry of object-attribute memory (R363). -/
structure Sprite where
  /-- Byte 0: the screen row of the top row, plus 16. -/
  y : Byte
  /-- Byte 1: the screen column of the left column, plus 8. -/
  x : Byte
  /-- Byte 2: the tile number. -/
  tile : Byte
  /-- Byte 3: bit 7 `behind_bg`, 6 `yflip`, 5 `xflip`, 4 `palette`. -/
  attr : Byte
  deriving DecidableEq, Repr

/-- Entry `i` of the table (R363). -/
def spriteAt (mem : Memory) (i : Nat) : Sprite where
  y := mem.read (0xFE00 + 4 * i)
  x := mem.read (0xFE00 + 4 * i + 1)
  tile := mem.read (0xFE00 + 4 * i + 2)
  attr := mem.read (0xFE00 + 4 * i + 3)

/-- The height of a sprite, `LCDC[2]` (R363). -/
def spriteHeight (p : Ppu) : Nat := if p.lcdc.getLsbD 2 then 16 else 8

/-- The line `ly` crosses the sprite (R357); its column plays no part. -/
def Sprite.crosses (o : Sprite) (height ly : Nat) : Bool := o.y.toNat ≤ ly + 16 && ly + 16 < o.y.toNat + height

/-- Puts `o` after the sprites whose column is not greater (R358). -/
def insertByX (o : Sprite) : List Sprite → List Sprite
  | [] => [o]
  | q :: qs => if o.x.toNat < q.x.toNat then o :: q :: qs else q :: insertByX o qs

/-- The order of drawing (R358): ascending column, ties in the order of the table. -/
def sortByX (os : List Sprite) : List Sprite := os.foldl (fun acc o => insertByX o acc) []

/-- `SelectSprites(ly)` (R357): the first ten of the table that the line crosses, in the order of R358. -/
def selectSprites (p : Ppu) (mem : Memory) (ly : Nat) : List Sprite :=
  if p.lcdc.getLsbD 1 then
    sortByX ((((List.range 40).map (spriteAt mem)).filter (fun o => o.crosses (spriteHeight p) ly)).take
      Config.spritesPerLine)
  else []

/-- The row within the sprite shown on the line `ly`, flipped by `attr[6]` (R359). -/
def Sprite.row (o : Sprite) (height ly : Nat) : Nat :=
  if o.attr.getLsbD 6 then height - 1 - (ly + 16 - o.y.toNat) else ly + 16 - o.y.toNat

/-- The column within the sprite shown at `x`, flipped by `attr[5]`; none where the sprite does not cover `x` (R359). -/
def Sprite.column (o : Sprite) (x : Nat) : Option Nat :=
  if o.x.toNat ≤ x + 8 ∧ x + 8 < o.x.toNat + 8 then
    some (if o.attr.getLsbD 5 then 7 - (x + 8 - o.x.toNat) else x + 8 - o.x.toNat)
  else none

/-- The tile that holds row `r` of the sprite (R359): of two tiles in 16-row mode, bit 0 of the number ignored. -/
def Sprite.tileOfRow (o : Sprite) (height r : Nat) : Byte :=
  if height = 16 then (o.tile &&& 0xFE) ||| BitVec.ofNat 8 (r / 8) else o.tile

/-- `SpritePixel(i, x, ly)` (R359): none where the sprite does not cover `x` or is transparent there. -/
def spritePixel (p : Ppu) (mem : Memory) (o : Sprite) (ly x : Nat) : Option (BitVec 2) :=
  match o.column x with
  | none => none
  | some c =>
    let r := o.row (spriteHeight p) ly
    let ci := tilePixel mem (tileBase p (o.tileOfRow (spriteHeight p) r) true) (r % 8) c
    if ci = 0 then none else some ci

/-- `SpriteOver(sel, x, ly, bg_ci, bg_shade)` (R360): only the first non-transparent sprite pixel is considered. -/
def spriteOver (p : Ppu) (mem : Memory) (ly x : Nat) (bgCi : BitVec 2) (bgShade : Shade) : List Sprite → Shade
  | [] => bgShade
  | o :: os =>
    match spritePixel p mem o ly x with
    | none => spriteOver p mem ly x bgCi bgShade os
    | some sci =>
      if o.attr.getLsbD 7 && bgCi ≠ 0 then bgShade
      else shadeOf (if o.attr.getLsbD 4 then p.obp1 else p.obp0) sci

/-! ## The row -/

/-- The colour index of background and window at `x` (R366); 0 while they are disabled (R362). -/
def layerIndex (p : Ppu) (mem : Memory) (ly x : Nat) : BitVec 2 :=
  if p.lcdc.getLsbD 0 then
    if windowCovers p ly x then windowPixel p mem x else bgPixel p mem ly x
  else 0

/-- Its shade (R361, R366); 0 while background and window are disabled, whatever `BGP` (R362). -/
def layerShade (p : Ppu) (mem : Memory) (ly x : Nat) : Shade :=
  if p.lcdc.getLsbD 0 then shadeOf p.bgp (layerIndex p mem ly x) else 0

/-- The shade of the pixel `x` of the line `ly` (R366). -/
def pixelShade (p : Ppu) (mem : Memory) (sel : List Sprite) (ly x : Nat) : Shade :=
  spriteOver p mem ly x (layerIndex p mem ly x) (layerShade p mem ly x) sel

/-- `used_window` (R366): some pixel of the line comes from the window. -/
def usesWindow (p : Ppu) (ly : Nat) : Bool :=
  p.lcdc.getLsbD 0 && (List.range Config.rowPixels).any (windowCovers p ly)

/-- The row of the line `ly` (R366). -/
def renderRow (p : Ppu) (mem : Memory) (ly : Nat) : FbRow :=
  let sel := selectSprites p mem ly
  Vector.ofFn (fun x => pixelShade p mem sel ly x.val)

/-- `RenderScanline(ly)` (R350, R366): writes the row `ly` of `fb` and the window's line counter, and nothing else. -/
def renderScanline (p : Ppu) (mem : Memory) (ly : Nat) : Ppu :=
  { p with
    fb := p.fb.setIfInBounds ly (renderRow p mem ly)
    winLine := if usesWindow p ly then p.winLine + 1 else p.winLine }

/-! ## The framebuffer accessor (R364) -/

/-- `fb[y][x]`. -/
def Ppu.shade (p : Ppu) (y x : Nat) : Shade :=
  match p.fb[y]? with
  | none => 0
  | some row => (row[x]?).getD 0

/-- `Packed(k)` (R364): four pixels to a byte, the lower-numbered pixel in the lower bits. -/
def Ppu.packed (p : Ppu) (k : Nat) : Byte :=
  let px := fun j => p.shade ((4 * k + j) / 160) ((4 * k + j) % 160)
  px 3 ++ px 2 ++ px 1 ++ px 0

/-- `FramebufferPixel(y, x)` (R364), read from the packed form. -/
def Ppu.framebufferPixel (p : Ppu) (y x : Nat) : Shade :=
  (p.packed ((160 * y + x) / 4) >>> (2 * ((160 * y + x) % 4))).setWidth 2

end Sys2Proof.Machine
end

