-- ==== Sys2Proof/Machine/PpuUnit.lean ====
section
/-! DEFINITION. The scanline and mode controller's tick (47_ppu_mode_controller.md R310 to R317). -/

namespace Sys2Proof.Machine

/-- `ModeOf(ly, dot)` (R312). -/
def modeOf (ly dot : Nat) : Mode :=
  if Config.visibleLines ≤ ly then .vblank
  else if dot < Config.mode2Dots then .oamSearch
  else if dot < Config.mode2Dots + Config.mode3Dots then .pixelTransfer
  else .hblank

/-- `StatCondition()` (R315): the OR of the enabled conditions, each a level. -/
def Ppu.statCondition (p : Ppu) : Bool :=
  (p.statEn.getLsbD 0 && p.mode == .hblank) || (p.statEn.getLsbD 1 && p.mode == .vblank) ||
    (p.statEn.getLsbD 2 && p.mode == .oamSearch) || (p.statEn.getLsbD 3 && p.lycEq)

/-- The dot counter and the scanline index of the next dot (R311): the frame's wrap resets the window's line counter. -/
def Ppu.advance (p : Ppu) : Ppu :=
  if p.dot + 1 = Config.dotsPerLine then
    if p.ly + 1 = Config.linesPerFrame then { p with dot := 0, ly := 0, winLine := 0 }
    else { p with dot := 0, ly := p.ly + 1 }
  else { p with dot := p.dot + 1 }

/-- The mode of the counters' place (R311); entering pixel transfer renders the line. -/
def Ppu.enterMode (p : Ppu) (mem : Memory) : Ppu :=
  if modeOf p.ly p.dot = p.mode then p
  else
    let q := { p with mode := modeOf p.ly p.dot }
    if q.mode = .pixelTransfer then renderScanline q mem q.ly else q

/-- The vertical-blank request, bit 0 of the mask (R314): the mode changes to vertical blank at this dot. -/
def vblankRequest (old new : Ppu) : Byte := if new.mode = .vblank ∧ old.mode ≠ .vblank then 0x01 else 0x00

/-- The STAT request, bit 1 of the mask (R316): the condition is true and was false at the previous dot. -/
def statRequest (p : Ppu) : Byte := if p.statCondition && !p.statLine then 0x02 else 0x00

/-- `PpuDot()` (R311): one dot, and the mask of the requests it raises. A stopped PPU does nothing (R317). -/
def ppuDot (p : Ppu) (mem : Memory) : Ppu × Byte :=
  if p.lcdOn then
    let q := p.advance.enterMode mem
    ({ q with statLine := q.statCondition }, vblankRequest p q ||| statRequest q)
  else (p, 0)

/-- `PpuTick(cycles)` (R310): that many dots, and the OR of their masks. -/
def ppuTick : Nat → Ppu → Memory → Ppu × Byte
  | 0, p, _ => (p, 0)
  | n + 1, p, mem =>
    ((ppuTick n (ppuDot p mem).1 mem).1, (ppuDot p mem).2 ||| (ppuTick n (ppuDot p mem).1 mem).2)

end Sys2Proof.Machine
end

