-- ==== Sys2Proof/Machine/Cpu.lean ====
section
/-! DEFINITION. What a CPU step does around an instruction (60_exceptions.md R410): the boundary actions, the fetch, and
what the system step does after it (00_scope.md R8); and placing one instruction where the next fetch finds it. -/

namespace Sys2Proof.Machine

/-! ## The boundary -/

/-- The delayed enable's countdown, the first action of a step (R410, R275). -/
def countdown (s : State) : State :=
  if s.imeDelay = 0 then s
  else { s with imeDelay := s.imeDelay - 1, ime := if s.imeDelay = 1 then true else s.ime }

/-- The wake-up, the second action of a step (R410): `Halted` ends when anything is pending, whatever `IME` (R272),
`Stopped` when the joypad request is set (R276). -/
def wake (s : State) : State :=
  match s.runState with
  | .halted => if s.pending ≠ 0 then { s with runState := .running } else s
  | .stopped => if s.ifr.getLsbD 4 then { s with runState := .running } else s
  | .running => s
  | .faulted _ _ => s

/-- The two boundary actions, in order. -/
def boundary (s : State) : State := wake (countdown s)

/-- The interrupt test (R411). -/
def interruptTaken (s : State) : Bool := s.ime && s.pending != 0

/-- What one CPU step does (R410). -/
inductive Begin where
  /-- The machine is `Faulted`: the recorded fault is reported again. -/
  | terminal (op : Byte) (addr : Word)
  /-- The step is over without an instruction: an idle step or a dispatch. -/
  | over (t : State)
  /-- An instruction is fetched and executed from this state. -/
  | run (t : State)

/-- The branches of `CpuStep` before the fetch, in its order (R410). -/
def beginStep (s : State) : Begin :=
  match s.runState with
  | .faulted op addr => .terminal op addr
  | _ =>
    let t := boundary s
    if t.runState = .stopped then .over { t with cycles := Config.idleCycles }
    else if interruptTaken t then .over (dispatch t)
    else if t.runState = .halted then .over { t with cycles := Config.idleCycles }
    else .run t

/-! ## The fetch (R103) -/

/-- Where the byte after the opcode is fetched: with `halt_bug` the opcode's own address, since that fetch does not move
`PC` (R103, R273). -/
def operandAddress (s : State) : Word := if s.haltBug then s.pc else s.pc + 1

/-- The instruction that the next fetch reads, its bytes read through the bus. A read has no side effect (R89), so bytes
past a shorter instruction's end are read and ignored. -/
def fetchInstr (s : State) : Instr :=
  decodeBytes (cpuRead s s.pc) (cpuRead s (operandAddress s)) (cpuRead s (operandAddress s + 1))

/-- The state as an instruction's meaning finds it: `PC` past the bytes fetched and `halt_bug` consumed (R103). An
unassigned byte raises its fault before either (R103, R277). -/
def fetched (s : State) : State :=
  if (fetchInstr s).unassigned then s
  else { s with pc := operandAddress s + BitVec.ofNat 16 ((fetchInstr s).length - 1), haltBug := false }

/-! ## After the CPU step (R8) -/

/-- The environment's own `RequestInterrupts` call at this boundary, if one is to come (R405, U17; log entry 3). -/
def deliverExternal (s : State) : State :=
  match s.extRequests with
  | [] => s
  | mask :: rest => requestInterrupts mask { s with extRequests := rest }

/-- `PpuTick(c)`, then `RequestInterrupts` of its mask (R8, R310). -/
def tickPpu (c : Nat) (s : State) : State :=
  let o := ppuTick c s.ppu s.mem
  requestInterrupts o.2 { s with ppu := o.1 }

/-- `DmaTick(c); mask <- PpuTick(c); RequestInterrupts(mask)` with the cycles the CPU step returned (R8), then the
boundary at which the environment may call. -/
def systemTail (s : State) : State := deliverExternal (tickPpu s.cycles (dmaTick s.cycles s))

/-! ## Placing an instruction (log entry 7) -/

/-- A plain memory cell that no lock can close: ROM, work RAM and its echo, high RAM. -/
def isPlain (a : Word) : Bool :=
  match regionOf a with
  | .rom => true
  | .wram => true
  | .echo => true
  | .hram => true
  | _ => false

/-- `s` with nothing to keep its next step from fetching an instruction: running, no interrupt due, no wait quirk, no
transfer; each changed only where it stands in the way. -/
def readyToFetch (s : State) : State :=
  let t := { s with runState := .running, haltBug := false }
  let t := if s.pending = 0 then t else { t with ime := false, imeDelay := 0 }
  if s.dma.active then { t with dma := { t.dma with active := false, offset := 0, sub := 0 } } else t

/-- `s` with `PC` at a place for three bytes: its own, or the reset entry where the bytes at `PC` are not plain
memory. -/
def fetchPlace (s : State) : State :=
  if isPlain s.pc && isPlain (s.pc + 1) && isPlain (s.pc + 2) then s else { s with pc := 0x0100 }

/-- `s` with three bytes stored at `PC`: for ROM, as the cartridge image would hold them (R42). -/
def placeAtPc (b : Byte × Byte × Byte) (s : State) : State :=
  storeCell (storeCell (storeCell s s.pc b.1) (s.pc + 1) b.2.1) (s.pc + 2) b.2.2

end Sys2Proof.Machine
end

