-- ==== Sys2Proof/Machine/Alu16.lean ====
section
/-! DEFINITION. 16-bit arithmetic (43_alu16.md R215 to R219). -/

namespace Sys2Proof.Machine

/-- `ADD HL,rr`: `Z` stays (R215). -/
def addHlPair (p : R16) (s : State) : Result :=
  let o := add16 s.hl (s.r16 p)
  done 8 ((s.setHl o.r).setFlags s.fZ false o.h o.c)

/-- `INC rr`: no flag (R216). -/
def incR16 (p : R16) (s : State) : Result := done 8 (s.setR16 p (s.r16 p + 1))

/-- `DEC rr`: no flag (R217). -/
def decR16 (p : R16) (s : State) : Result := done 8 (s.setR16 p (s.r16 p - 1))

/-- `ADD SP,e`: `Z` is 0 (R218). -/
def addSpDisp (e : Byte) (s : State) : Result :=
  let o := spPlusE s.sp e
  done 16 ({ s with sp := o.r }.setFlags false false o.h o.c)

/-! ## The instructions -/

/-- `INC BC`, `03` (R216). -/
def execIncBc (s : State) : Result := incR16 .bc s

/-- `ADD HL,BC`, `09` (R215). -/
def execAddHlBc (s : State) : Result := addHlPair .bc s

/-- `DEC BC`, `0B` (R217). -/
def execDecBc (s : State) : Result := decR16 .bc s

/-- `INC DE`, `13` (R216). -/
def execIncDe (s : State) : Result := incR16 .de s

/-- `ADD HL,DE`, `19` (R215). -/
def execAddHlDe (s : State) : Result := addHlPair .de s

/-- `DEC DE`, `1B` (R217). -/
def execDecDe (s : State) : Result := decR16 .de s

/-- `INC HL`, `23` (R216). -/
def execIncHl (s : State) : Result := incR16 .hl s

/-- `ADD HL,HL`, `29` (R215). -/
def execAddHlHl (s : State) : Result := addHlPair .hl s

/-- `DEC HL`, `2B` (R217). -/
def execDecHl (s : State) : Result := decR16 .hl s

/-- `INC SP`, `33` (R216). -/
def execIncSp (s : State) : Result := incR16 .sp s

/-- `ADD HL,SP`, `39` (R215). -/
def execAddHlSp (s : State) : Result := addHlPair .sp s

/-- `DEC SP`, `3B` (R217). -/
def execDecSp (s : State) : Result := decR16 .sp s

/-- `ADD SP,e`, `E8` (R218). -/
def execAddSpE (e : Byte) (s : State) : Result := addSpDisp e s

end Sys2Proof.Machine
end

