-- ==== Sys2Proof/Machine/Alu8.lean ====
section
/-! DEFINITION. 8-bit arithmetic and logic (42_alu8.md R178 to R211). -/

namespace Sys2Proof.Machine

/-- `A <- r`, with the four flags. -/
def setA (r : Byte) (z n h c : Bool) (s : State) : State := { s with a := r }.setFlags z n h c

/-- `ADD A,x` (R180). -/
def addA (x : Byte) (s : State) : State :=
  let o := add8 s.a x false
  setA o.r o.z false o.h o.c s

/-- `ADC A,x` (R183). -/
def adcA (x : Byte) (s : State) : State :=
  let o := add8 s.a x s.fC
  setA o.r o.z false o.h o.c s

/-- `SUB x` (R186). -/
def subA (x : Byte) (s : State) : State :=
  let o := sub8 s.a x false
  setA o.r o.z true o.h o.c s

/-- `SBC A,x` (R189). -/
def sbcA (x : Byte) (s : State) : State :=
  let o := sub8 s.a x s.fC
  setA o.r o.z true o.h o.c s

/-- `AND x` (R192). -/
def andA (x : Byte) (s : State) : State := setA (s.a &&& x) (s.a &&& x == 0) false true false s

/-- `XOR x` (R195). -/
def xorA (x : Byte) (s : State) : State := setA (s.a ^^^ x) (s.a ^^^ x == 0) false false false s

/-- `OR x` (R198). -/
def orA (x : Byte) (s : State) : State := setA (s.a ||| x) (s.a ||| x == 0) false false false s

/-- `CP x`: a subtraction whose result is discarded (R201). -/
def cpA (x : Byte) (s : State) : State :=
  let o := sub8 s.a x false
  s.setFlags o.z true o.h o.c

/-- The operation of R108 on `A` and `x`, the same for every form of `x` (R178). -/
def aluA (op : AluOp) (x : Byte) (s : State) : State :=
  match op with
  | .add => addA x s
  | .adc => adcA x s
  | .sub => subA x s
  | .sbc => sbcA x s
  | .and => andA x s
  | .xor => xorA x s
  | .or => orA x s
  | .cp => cpA x s

/-- The register form (R178). -/
def aluReg (op : AluOp) (r : R8) (s : State) : Result := done 4 (aluA op (s.r8 r) s)

/-- The memory form (R178). -/
def aluMem (op : AluOp) (s : State) : Result := done 8 (aluA op s.memHl s)

/-- The immediate form (R178). -/
def aluImm (op : AluOp) (n : Byte) (s : State) : Result := done 8 (aluA op n s)

/-- The flags of `INC` on the old value `v`; the carry stays (R204). -/
def incFlags (v : Byte) (s : State) : State := s.setFlags (v + 1 == 0) false (v &&& 0x0F == 0x0F) s.fC

/-- The flags of `DEC` on the old value `v`; the carry stays (R206). -/
def decFlags (v : Byte) (s : State) : State := s.setFlags (v - 1 == 0) true (v &&& 0x0F == 0x00) s.fC

/-- `INC r` (R204). -/
def incR8 (r : R8) (s : State) : Result := done 4 (incFlags (s.r8 r) (s.setR8 r (s.r8 r + 1)))

/-- `INC (HL)`: one read, then one write (R205). -/
def incMemHl (s : State) : Result := done 12 (incFlags s.memHl (s.setMemHl (s.memHl + 1)))

/-- `DEC r` (R206). -/
def decR8 (r : R8) (s : State) : Result := done 4 (decFlags (s.r8 r) (s.setR8 r (s.r8 r - 1)))

/-- `DEC (HL)` (R207). -/
def decMemHl (s : State) : Result := done 12 (decFlags s.memHl (s.setMemHl (s.memHl - 1)))

/-- `DAA` (R208): `N` stays, `H` is cleared. -/
def decimalAdjust (s : State) : State :=
  let o := daaAdjust s.a s.fN s.fH s.fC
  setA o.1 (o.1 == 0) s.fN false o.2 s

/-! ## The instructions -/

/-- `INC B`, `04` (R204). -/
def execIncB (s : State) : Result := incR8 .b s

/-- `DEC B`, `05` (R206). -/
def execDecB (s : State) : Result := decR8 .b s

/-- `INC C`, `0C` (R204). -/
def execIncC (s : State) : Result := incR8 .c s

/-- `DEC C`, `0D` (R206). -/
def execDecC (s : State) : Result := decR8 .c s

/-- `INC D`, `14` (R204). -/
def execIncD (s : State) : Result := incR8 .d s

/-- `DEC D`, `15` (R206). -/
def execDecD (s : State) : Result := decR8 .d s

/-- `INC E`, `1C` (R204). -/
def execIncE (s : State) : Result := incR8 .e s

/-- `DEC E`, `1D` (R206). -/
def execDecE (s : State) : Result := decR8 .e s

/-- `INC H`, `24` (R204). -/
def execIncH (s : State) : Result := incR8 .h s

/-- `DEC H`, `25` (R206). -/
def execDecH (s : State) : Result := decR8 .h s

/-- `DAA`, `27` (R208). -/
def execDaa (s : State) : Result := done 4 (decimalAdjust s)

/-- `INC L`, `2C` (R204). -/
def execIncL (s : State) : Result := incR8 .l s

/-- `DEC L`, `2D` (R206). -/
def execDecL (s : State) : Result := decR8 .l s

/-- `CPL`, `2F` (R209). -/
def execCpl (s : State) : Result := done 4 ({ s with a := s.a ^^^ 0xFF }.setFlags s.fZ true true s.fC)

/-- `INC (HL)`, `34` (R205). -/
def execIncMHl (s : State) : Result := incMemHl s

/-- `DEC (HL)`, `35` (R207). -/
def execDecMHl (s : State) : Result := decMemHl s

/-- `SCF`, `37` (R210). -/
def execScf (s : State) : Result := done 4 (s.setFlags s.fZ false false true)

/-- `INC A`, `3C` (R204). -/
def execIncA (s : State) : Result := incR8 .a s

/-- `DEC A`, `3D` (R206). -/
def execDecA (s : State) : Result := decR8 .a s

/-- `CCF`, `3F` (R211). -/
def execCcf (s : State) : Result := done 4 (s.setFlags s.fZ false false (!s.fC))

/-- `ADD A,B`, `80` (R180). -/
def execAddAB (s : State) : Result := aluReg .add .b s

/-- `ADD A,C`, `81` (R180). -/
def execAddAC (s : State) : Result := aluReg .add .c s

/-- `ADD A,D`, `82` (R180). -/
def execAddAD (s : State) : Result := aluReg .add .d s

/-- `ADD A,E`, `83` (R180). -/
def execAddAE (s : State) : Result := aluReg .add .e s

/-- `ADD A,H`, `84` (R180). -/
def execAddAH (s : State) : Result := aluReg .add .h s

/-- `ADD A,L`, `85` (R180). -/
def execAddAL (s : State) : Result := aluReg .add .l s

/-- `ADD A,(HL)`, `86` (R181). -/
def execAddAMHl (s : State) : Result := aluMem .add s

/-- `ADD A,A`, `87` (R180). -/
def execAddAA (s : State) : Result := aluReg .add .a s

/-- `ADC A,B`, `88` (R183). -/
def execAdcAB (s : State) : Result := aluReg .adc .b s

/-- `ADC A,C`, `89` (R183). -/
def execAdcAC (s : State) : Result := aluReg .adc .c s

/-- `ADC A,D`, `8A` (R183). -/
def execAdcAD (s : State) : Result := aluReg .adc .d s

/-- `ADC A,E`, `8B` (R183). -/
def execAdcAE (s : State) : Result := aluReg .adc .e s

/-- `ADC A,H`, `8C` (R183). -/
def execAdcAH (s : State) : Result := aluReg .adc .h s

/-- `ADC A,L`, `8D` (R183). -/
def execAdcAL (s : State) : Result := aluReg .adc .l s

/-- `ADC A,(HL)`, `8E` (R184). -/
def execAdcAMHl (s : State) : Result := aluMem .adc s

/-- `ADC A,A`, `8F` (R183). -/
def execAdcAA (s : State) : Result := aluReg .adc .a s

/-- `SUB B`, `90` (R186). -/
def execSubB (s : State) : Result := aluReg .sub .b s

/-- `SUB C`, `91` (R186). -/
def execSubC (s : State) : Result := aluReg .sub .c s

/-- `SUB D`, `92` (R186). -/
def execSubD (s : State) : Result := aluReg .sub .d s

/-- `SUB E`, `93` (R186). -/
def execSubE (s : State) : Result := aluReg .sub .e s

/-- `SUB H`, `94` (R186). -/
def execSubH (s : State) : Result := aluReg .sub .h s

/-- `SUB L`, `95` (R186). -/
def execSubL (s : State) : Result := aluReg .sub .l s

/-- `SUB (HL)`, `96` (R187). -/
def execSubMHl (s : State) : Result := aluMem .sub s

/-- `SUB A`, `97` (R186). -/
def execSubA (s : State) : Result := aluReg .sub .a s

/-- `SBC A,B`, `98` (R189). -/
def execSbcAB (s : State) : Result := aluReg .sbc .b s

/-- `SBC A,C`, `99` (R189). -/
def execSbcAC (s : State) : Result := aluReg .sbc .c s

/-- `SBC A,D`, `9A` (R189). -/
def execSbcAD (s : State) : Result := aluReg .sbc .d s

/-- `SBC A,E`, `9B` (R189). -/
def execSbcAE (s : State) : Result := aluReg .sbc .e s

/-- `SBC A,H`, `9C` (R189). -/
def execSbcAH (s : State) : Result := aluReg .sbc .h s

/-- `SBC A,L`, `9D` (R189). -/
def execSbcAL (s : State) : Result := aluReg .sbc .l s

/-- `SBC A,(HL)`, `9E` (R190). -/
def execSbcAMHl (s : State) : Result := aluMem .sbc s

/-- `SBC A,A`, `9F` (R189). -/
def execSbcAA (s : State) : Result := aluReg .sbc .a s

/-- `AND B`, `A0` (R192). -/
def execAndB (s : State) : Result := aluReg .and .b s

/-- `AND C`, `A1` (R192). -/
def execAndC (s : State) : Result := aluReg .and .c s

/-- `AND D`, `A2` (R192). -/
def execAndD (s : State) : Result := aluReg .and .d s

/-- `AND E`, `A3` (R192). -/
def execAndE (s : State) : Result := aluReg .and .e s

/-- `AND H`, `A4` (R192). -/
def execAndH (s : State) : Result := aluReg .and .h s

/-- `AND L`, `A5` (R192). -/
def execAndL (s : State) : Result := aluReg .and .l s

/-- `AND (HL)`, `A6` (R193). -/
def execAndMHl (s : State) : Result := aluMem .and s

/-- `AND A`, `A7` (R192). -/
def execAndA (s : State) : Result := aluReg .and .a s

/-- `XOR B`, `A8` (R195). -/
def execXorB (s : State) : Result := aluReg .xor .b s

/-- `XOR C`, `A9` (R195). -/
def execXorC (s : State) : Result := aluReg .xor .c s

/-- `XOR D`, `AA` (R195). -/
def execXorD (s : State) : Result := aluReg .xor .d s

/-- `XOR E`, `AB` (R195). -/
def execXorE (s : State) : Result := aluReg .xor .e s

/-- `XOR H`, `AC` (R195). -/
def execXorH (s : State) : Result := aluReg .xor .h s

/-- `XOR L`, `AD` (R195). -/
def execXorL (s : State) : Result := aluReg .xor .l s

/-- `XOR (HL)`, `AE` (R196). -/
def execXorMHl (s : State) : Result := aluMem .xor s

/-- `XOR A`, `AF` (R195). -/
def execXorA (s : State) : Result := aluReg .xor .a s

/-- `OR B`, `B0` (R198). -/
def execOrB (s : State) : Result := aluReg .or .b s

/-- `OR C`, `B1` (R198). -/
def execOrC (s : State) : Result := aluReg .or .c s

/-- `OR D`, `B2` (R198). -/
def execOrD (s : State) : Result := aluReg .or .d s

/-- `OR E`, `B3` (R198). -/
def execOrE (s : State) : Result := aluReg .or .e s

/-- `OR H`, `B4` (R198). -/
def execOrH (s : State) : Result := aluReg .or .h s

/-- `OR L`, `B5` (R198). -/
def execOrL (s : State) : Result := aluReg .or .l s

/-- `OR (HL)`, `B6` (R199). -/
def execOrMHl (s : State) : Result := aluMem .or s

/-- `OR A`, `B7` (R198). -/
def execOrA (s : State) : Result := aluReg .or .a s

/-- `CP B`, `B8` (R201). -/
def execCpB (s : State) : Result := aluReg .cp .b s

/-- `CP C`, `B9` (R201). -/
def execCpC (s : State) : Result := aluReg .cp .c s

/-- `CP D`, `BA` (R201). -/
def execCpD (s : State) : Result := aluReg .cp .d s

/-- `CP E`, `BB` (R201). -/
def execCpE (s : State) : Result := aluReg .cp .e s

/-- `CP H`, `BC` (R201). -/
def execCpH (s : State) : Result := aluReg .cp .h s

/-- `CP L`, `BD` (R201). -/
def execCpL (s : State) : Result := aluReg .cp .l s

/-- `CP (HL)`, `BE` (R202). -/
def execCpMHl (s : State) : Result := aluMem .cp s

/-- `CP A`, `BF` (R201). -/
def execCpA (s : State) : Result := aluReg .cp .a s

/-- `ADD A,n`, `C6` (R182). -/
def execAddAN (n : Byte) (s : State) : Result := aluImm .add n s

/-- `ADC A,n`, `CE` (R185). -/
def execAdcAN (n : Byte) (s : State) : Result := aluImm .adc n s

/-- `SUB n`, `D6` (R188). -/
def execSubN (n : Byte) (s : State) : Result := aluImm .sub n s

/-- `SBC A,n`, `DE` (R191). -/
def execSbcAN (n : Byte) (s : State) : Result := aluImm .sbc n s

/-- `AND n`, `E6` (R194). -/
def execAndN (n : Byte) (s : State) : Result := aluImm .and n s

/-- `XOR n`, `EE` (R197). -/
def execXorN (n : Byte) (s : State) : Result := aluImm .xor n s

/-- `OR n`, `F6` (R200). -/
def execOrN (n : Byte) (s : State) : Result := aluImm .or n s

/-- `CP n`, `FE` (R203). -/
def execCpN (n : Byte) (s : State) : Result := aluImm .cp n s

end Sys2Proof.Machine
end

