-- ==== Sys2Proof/Machine/BitOps.lean ====
section
/-! DEFINITION. Bit test, reset and set (44_rotate_shift_bit.md R232 to R237). -/

namespace Sys2Proof.Machine

/-- The flags of testing bit `b` of `v`: `Z` is its complement, `C` stays (R232). -/
def bitFlags (b : Nat) (v : Byte) (s : State) : State := s.setFlags (!v.getLsbD b) false true s.fC

/-- `v & ~(1 << b)` (R234). -/
def clearBit (b : Nat) (v : Byte) : Byte := v &&& ~~~(1#8 <<< b)

/-- `v | (1 << b)` (R236). -/
def raiseBit (b : Nat) (v : Byte) : Byte := v ||| (1#8 <<< b)

/-- `BIT b,r` (R232). -/
def bitR8 (b : Nat) (r : R8) (s : State) : Result := done 8 (bitFlags b (s.r8 r) s)

/-- `BIT b,(HL)`: no write (R233). -/
def bitMemHl (b : Nat) (s : State) : Result := done 12 (bitFlags b s.memHl s)

/-- `RES b,r` (R234). -/
def resR8 (b : Nat) (r : R8) (s : State) : Result := done 8 (s.setR8 r (clearBit b (s.r8 r)))

/-- `RES b,(HL)`: the write happens even when the value does not change (R235). -/
def resMemHl (b : Nat) (s : State) : Result := done 16 (s.setMemHl (clearBit b s.memHl))

/-- `SET b,r` (R236). -/
def setBitR8 (b : Nat) (r : R8) (s : State) : Result := done 8 (s.setR8 r (raiseBit b (s.r8 r)))

/-- `SET b,(HL)` (R237). -/
def setBitMemHl (b : Nat) (s : State) : Result := done 16 (s.setMemHl (raiseBit b s.memHl))

/-! ## The instructions -/

/-- `BIT 0,B`, `CB 40` (R232). -/
def execBit0B (s : State) : Result := bitR8 0 .b s

/-- `BIT 0,C`, `CB 41` (R232). -/
def execBit0C (s : State) : Result := bitR8 0 .c s

/-- `BIT 0,D`, `CB 42` (R232). -/
def execBit0D (s : State) : Result := bitR8 0 .d s

/-- `BIT 0,E`, `CB 43` (R232). -/
def execBit0E (s : State) : Result := bitR8 0 .e s

/-- `BIT 0,H`, `CB 44` (R232). -/
def execBit0H (s : State) : Result := bitR8 0 .h s

/-- `BIT 0,L`, `CB 45` (R232). -/
def execBit0L (s : State) : Result := bitR8 0 .l s

/-- `BIT 0,(HL)`, `CB 46` (R233). -/
def execBit0MHl (s : State) : Result := bitMemHl 0 s

/-- `BIT 0,A`, `CB 47` (R232). -/
def execBit0A (s : State) : Result := bitR8 0 .a s

/-- `BIT 1,B`, `CB 48` (R232). -/
def execBit1B (s : State) : Result := bitR8 1 .b s

/-- `BIT 1,C`, `CB 49` (R232). -/
def execBit1C (s : State) : Result := bitR8 1 .c s

/-- `BIT 1,D`, `CB 4A` (R232). -/
def execBit1D (s : State) : Result := bitR8 1 .d s

/-- `BIT 1,E`, `CB 4B` (R232). -/
def execBit1E (s : State) : Result := bitR8 1 .e s

/-- `BIT 1,H`, `CB 4C` (R232). -/
def execBit1H (s : State) : Result := bitR8 1 .h s

/-- `BIT 1,L`, `CB 4D` (R232). -/
def execBit1L (s : State) : Result := bitR8 1 .l s

/-- `BIT 1,(HL)`, `CB 4E` (R233). -/
def execBit1MHl (s : State) : Result := bitMemHl 1 s

/-- `BIT 1,A`, `CB 4F` (R232). -/
def execBit1A (s : State) : Result := bitR8 1 .a s

/-- `BIT 2,B`, `CB 50` (R232). -/
def execBit2B (s : State) : Result := bitR8 2 .b s

/-- `BIT 2,C`, `CB 51` (R232). -/
def execBit2C (s : State) : Result := bitR8 2 .c s

/-- `BIT 2,D`, `CB 52` (R232). -/
def execBit2D (s : State) : Result := bitR8 2 .d s

/-- `BIT 2,E`, `CB 53` (R232). -/
def execBit2E (s : State) : Result := bitR8 2 .e s

/-- `BIT 2,H`, `CB 54` (R232). -/
def execBit2H (s : State) : Result := bitR8 2 .h s

/-- `BIT 2,L`, `CB 55` (R232). -/
def execBit2L (s : State) : Result := bitR8 2 .l s

/-- `BIT 2,(HL)`, `CB 56` (R233). -/
def execBit2MHl (s : State) : Result := bitMemHl 2 s

/-- `BIT 2,A`, `CB 57` (R232). -/
def execBit2A (s : State) : Result := bitR8 2 .a s

/-- `BIT 3,B`, `CB 58` (R232). -/
def execBit3B (s : State) : Result := bitR8 3 .b s

/-- `BIT 3,C`, `CB 59` (R232). -/
def execBit3C (s : State) : Result := bitR8 3 .c s

/-- `BIT 3,D`, `CB 5A` (R232). -/
def execBit3D (s : State) : Result := bitR8 3 .d s

/-- `BIT 3,E`, `CB 5B` (R232). -/
def execBit3E (s : State) : Result := bitR8 3 .e s

/-- `BIT 3,H`, `CB 5C` (R232). -/
def execBit3H (s : State) : Result := bitR8 3 .h s

/-- `BIT 3,L`, `CB 5D` (R232). -/
def execBit3L (s : State) : Result := bitR8 3 .l s

/-- `BIT 3,(HL)`, `CB 5E` (R233). -/
def execBit3MHl (s : State) : Result := bitMemHl 3 s

/-- `BIT 3,A`, `CB 5F` (R232). -/
def execBit3A (s : State) : Result := bitR8 3 .a s

/-- `BIT 4,B`, `CB 60` (R232). -/
def execBit4B (s : State) : Result := bitR8 4 .b s

/-- `BIT 4,C`, `CB 61` (R232). -/
def execBit4C (s : State) : Result := bitR8 4 .c s

/-- `BIT 4,D`, `CB 62` (R232). -/
def execBit4D (s : State) : Result := bitR8 4 .d s

/-- `BIT 4,E`, `CB 63` (R232). -/
def execBit4E (s : State) : Result := bitR8 4 .e s

/-- `BIT 4,H`, `CB 64` (R232). -/
def execBit4H (s : State) : Result := bitR8 4 .h s

/-- `BIT 4,L`, `CB 65` (R232). -/
def execBit4L (s : State) : Result := bitR8 4 .l s

/-- `BIT 4,(HL)`, `CB 66` (R233). -/
def execBit4MHl (s : State) : Result := bitMemHl 4 s

/-- `BIT 4,A`, `CB 67` (R232). -/
def execBit4A (s : State) : Result := bitR8 4 .a s

/-- `BIT 5,B`, `CB 68` (R232). -/
def execBit5B (s : State) : Result := bitR8 5 .b s

/-- `BIT 5,C`, `CB 69` (R232). -/
def execBit5C (s : State) : Result := bitR8 5 .c s

/-- `BIT 5,D`, `CB 6A` (R232). -/
def execBit5D (s : State) : Result := bitR8 5 .d s

/-- `BIT 5,E`, `CB 6B` (R232). -/
def execBit5E (s : State) : Result := bitR8 5 .e s

/-- `BIT 5,H`, `CB 6C` (R232). -/
def execBit5H (s : State) : Result := bitR8 5 .h s

/-- `BIT 5,L`, `CB 6D` (R232). -/
def execBit5L (s : State) : Result := bitR8 5 .l s

/-- `BIT 5,(HL)`, `CB 6E` (R233). -/
def execBit5MHl (s : State) : Result := bitMemHl 5 s

/-- `BIT 5,A`, `CB 6F` (R232). -/
def execBit5A (s : State) : Result := bitR8 5 .a s

/-- `BIT 6,B`, `CB 70` (R232). -/
def execBit6B (s : State) : Result := bitR8 6 .b s

/-- `BIT 6,C`, `CB 71` (R232). -/
def execBit6C (s : State) : Result := bitR8 6 .c s

/-- `BIT 6,D`, `CB 72` (R232). -/
def execBit6D (s : State) : Result := bitR8 6 .d s

/-- `BIT 6,E`, `CB 73` (R232). -/
def execBit6E (s : State) : Result := bitR8 6 .e s

/-- `BIT 6,H`, `CB 74` (R232). -/
def execBit6H (s : State) : Result := bitR8 6 .h s

/-- `BIT 6,L`, `CB 75` (R232). -/
def execBit6L (s : State) : Result := bitR8 6 .l s

/-- `BIT 6,(HL)`, `CB 76` (R233). -/
def execBit6MHl (s : State) : Result := bitMemHl 6 s

/-- `BIT 6,A`, `CB 77` (R232). -/
def execBit6A (s : State) : Result := bitR8 6 .a s

/-- `BIT 7,B`, `CB 78` (R232). -/
def execBit7B (s : State) : Result := bitR8 7 .b s

/-- `BIT 7,C`, `CB 79` (R232). -/
def execBit7C (s : State) : Result := bitR8 7 .c s

/-- `BIT 7,D`, `CB 7A` (R232). -/
def execBit7D (s : State) : Result := bitR8 7 .d s

/-- `BIT 7,E`, `CB 7B` (R232). -/
def execBit7E (s : State) : Result := bitR8 7 .e s

/-- `BIT 7,H`, `CB 7C` (R232). -/
def execBit7H (s : State) : Result := bitR8 7 .h s

/-- `BIT 7,L`, `CB 7D` (R232). -/
def execBit7L (s : State) : Result := bitR8 7 .l s

/-- `BIT 7,(HL)`, `CB 7E` (R233). -/
def execBit7MHl (s : State) : Result := bitMemHl 7 s

/-- `BIT 7,A`, `CB 7F` (R232). -/
def execBit7A (s : State) : Result := bitR8 7 .a s

/-- `RES 0,B`, `CB 80` (R234). -/
def execRes0B (s : State) : Result := resR8 0 .b s

/-- `RES 0,C`, `CB 81` (R234). -/
def execRes0C (s : State) : Result := resR8 0 .c s

/-- `RES 0,D`, `CB 82` (R234). -/
def execRes0D (s : State) : Result := resR8 0 .d s

/-- `RES 0,E`, `CB 83` (R234). -/
def execRes0E (s : State) : Result := resR8 0 .e s

/-- `RES 0,H`, `CB 84` (R234). -/
def execRes0H (s : State) : Result := resR8 0 .h s

/-- `RES 0,L`, `CB 85` (R234). -/
def execRes0L (s : State) : Result := resR8 0 .l s

/-- `RES 0,(HL)`, `CB 86` (R235). -/
def execRes0MHl (s : State) : Result := resMemHl 0 s

/-- `RES 0,A`, `CB 87` (R234). -/
def execRes0A (s : State) : Result := resR8 0 .a s

/-- `RES 1,B`, `CB 88` (R234). -/
def execRes1B (s : State) : Result := resR8 1 .b s

/-- `RES 1,C`, `CB 89` (R234). -/
def execRes1C (s : State) : Result := resR8 1 .c s

/-- `RES 1,D`, `CB 8A` (R234). -/
def execRes1D (s : State) : Result := resR8 1 .d s

/-- `RES 1,E`, `CB 8B` (R234). -/
def execRes1E (s : State) : Result := resR8 1 .e s

/-- `RES 1,H`, `CB 8C` (R234). -/
def execRes1H (s : State) : Result := resR8 1 .h s

/-- `RES 1,L`, `CB 8D` (R234). -/
def execRes1L (s : State) : Result := resR8 1 .l s

/-- `RES 1,(HL)`, `CB 8E` (R235). -/
def execRes1MHl (s : State) : Result := resMemHl 1 s

/-- `RES 1,A`, `CB 8F` (R234). -/
def execRes1A (s : State) : Result := resR8 1 .a s

/-- `RES 2,B`, `CB 90` (R234). -/
def execRes2B (s : State) : Result := resR8 2 .b s

/-- `RES 2,C`, `CB 91` (R234). -/
def execRes2C (s : State) : Result := resR8 2 .c s

/-- `RES 2,D`, `CB 92` (R234). -/
def execRes2D (s : State) : Result := resR8 2 .d s

/-- `RES 2,E`, `CB 93` (R234). -/
def execRes2E (s : State) : Result := resR8 2 .e s

/-- `RES 2,H`, `CB 94` (R234). -/
def execRes2H (s : State) : Result := resR8 2 .h s

/-- `RES 2,L`, `CB 95` (R234). -/
def execRes2L (s : State) : Result := resR8 2 .l s

/-- `RES 2,(HL)`, `CB 96` (R235). -/
def execRes2MHl (s : State) : Result := resMemHl 2 s

/-- `RES 2,A`, `CB 97` (R234). -/
def execRes2A (s : State) : Result := resR8 2 .a s

/-- `RES 3,B`, `CB 98` (R234). -/
def execRes3B (s : State) : Result := resR8 3 .b s

/-- `RES 3,C`, `CB 99` (R234). -/
def execRes3C (s : State) : Result := resR8 3 .c s

/-- `RES 3,D`, `CB 9A` (R234). -/
def execRes3D (s : State) : Result := resR8 3 .d s

/-- `RES 3,E`, `CB 9B` (R234). -/
def execRes3E (s : State) : Result := resR8 3 .e s

/-- `RES 3,H`, `CB 9C` (R234). -/
def execRes3H (s : State) : Result := resR8 3 .h s

/-- `RES 3,L`, `CB 9D` (R234). -/
def execRes3L (s : State) : Result := resR8 3 .l s

/-- `RES 3,(HL)`, `CB 9E` (R235). -/
def execRes3MHl (s : State) : Result := resMemHl 3 s

/-- `RES 3,A`, `CB 9F` (R234). -/
def execRes3A (s : State) : Result := resR8 3 .a s

/-- `RES 4,B`, `CB A0` (R234). -/
def execRes4B (s : State) : Result := resR8 4 .b s

/-- `RES 4,C`, `CB A1` (R234). -/
def execRes4C (s : State) : Result := resR8 4 .c s

/-- `RES 4,D`, `CB A2` (R234). -/
def execRes4D (s : State) : Result := resR8 4 .d s

/-- `RES 4,E`, `CB A3` (R234). -/
def execRes4E (s : State) : Result := resR8 4 .e s

/-- `RES 4,H`, `CB A4` (R234). -/
def execRes4H (s : State) : Result := resR8 4 .h s

/-- `RES 4,L`, `CB A5` (R234). -/
def execRes4L (s : State) : Result := resR8 4 .l s

/-- `RES 4,(HL)`, `CB A6` (R235). -/
def execRes4MHl (s : State) : Result := resMemHl 4 s

/-- `RES 4,A`, `CB A7` (R234). -/
def execRes4A (s : State) : Result := resR8 4 .a s

/-- `RES 5,B`, `CB A8` (R234). -/
def execRes5B (s : State) : Result := resR8 5 .b s

/-- `RES 5,C`, `CB A9` (R234). -/
def execRes5C (s : State) : Result := resR8 5 .c s

/-- `RES 5,D`, `CB AA` (R234). -/
def execRes5D (s : State) : Result := resR8 5 .d s

/-- `RES 5,E`, `CB AB` (R234). -/
def execRes5E (s : State) : Result := resR8 5 .e s

/-- `RES 5,H`, `CB AC` (R234). -/
def execRes5H (s : State) : Result := resR8 5 .h s

/-- `RES 5,L`, `CB AD` (R234). -/
def execRes5L (s : State) : Result := resR8 5 .l s

/-- `RES 5,(HL)`, `CB AE` (R235). -/
def execRes5MHl (s : State) : Result := resMemHl 5 s

/-- `RES 5,A`, `CB AF` (R234). -/
def execRes5A (s : State) : Result := resR8 5 .a s

/-- `RES 6,B`, `CB B0` (R234). -/
def execRes6B (s : State) : Result := resR8 6 .b s

/-- `RES 6,C`, `CB B1` (R234). -/
def execRes6C (s : State) : Result := resR8 6 .c s

/-- `RES 6,D`, `CB B2` (R234). -/
def execRes6D (s : State) : Result := resR8 6 .d s

/-- `RES 6,E`, `CB B3` (R234). -/
def execRes6E (s : State) : Result := resR8 6 .e s

/-- `RES 6,H`, `CB B4` (R234). -/
def execRes6H (s : State) : Result := resR8 6 .h s

/-- `RES 6,L`, `CB B5` (R234). -/
def execRes6L (s : State) : Result := resR8 6 .l s

/-- `RES 6,(HL)`, `CB B6` (R235). -/
def execRes6MHl (s : State) : Result := resMemHl 6 s

/-- `RES 6,A`, `CB B7` (R234). -/
def execRes6A (s : State) : Result := resR8 6 .a s

/-- `RES 7,B`, `CB B8` (R234). -/
def execRes7B (s : State) : Result := resR8 7 .b s

/-- `RES 7,C`, `CB B9` (R234). -/
def execRes7C (s : State) : Result := resR8 7 .c s

/-- `RES 7,D`, `CB BA` (R234). -/
def execRes7D (s : State) : Result := resR8 7 .d s

/-- `RES 7,E`, `CB BB` (R234). -/
def execRes7E (s : State) : Result := resR8 7 .e s

/-- `RES 7,H`, `CB BC` (R234). -/
def execRes7H (s : State) : Result := resR8 7 .h s

/-- `RES 7,L`, `CB BD` (R234). -/
def execRes7L (s : State) : Result := resR8 7 .l s

/-- `RES 7,(HL)`, `CB BE` (R235). -/
def execRes7MHl (s : State) : Result := resMemHl 7 s

/-- `RES 7,A`, `CB BF` (R234). -/
def execRes7A (s : State) : Result := resR8 7 .a s

/-- `SET 0,B`, `CB C0` (R236). -/
def execSet0B (s : State) : Result := setBitR8 0 .b s

/-- `SET 0,C`, `CB C1` (R236). -/
def execSet0C (s : State) : Result := setBitR8 0 .c s

/-- `SET 0,D`, `CB C2` (R236). -/
def execSet0D (s : State) : Result := setBitR8 0 .d s

/-- `SET 0,E`, `CB C3` (R236). -/
def execSet0E (s : State) : Result := setBitR8 0 .e s

/-- `SET 0,H`, `CB C4` (R236). -/
def execSet0H (s : State) : Result := setBitR8 0 .h s

/-- `SET 0,L`, `CB C5` (R236). -/
def execSet0L (s : State) : Result := setBitR8 0 .l s

/-- `SET 0,(HL)`, `CB C6` (R237). -/
def execSet0MHl (s : State) : Result := setBitMemHl 0 s

/-- `SET 0,A`, `CB C7` (R236). -/
def execSet0A (s : State) : Result := setBitR8 0 .a s

/-- `SET 1,B`, `CB C8` (R236). -/
def execSet1B (s : State) : Result := setBitR8 1 .b s

/-- `SET 1,C`, `CB C9` (R236). -/
def execSet1C (s : State) : Result := setBitR8 1 .c s

/-- `SET 1,D`, `CB CA` (R236). -/
def execSet1D (s : State) : Result := setBitR8 1 .d s

/-- `SET 1,E`, `CB CB` (R236). -/
def execSet1E (s : State) : Result := setBitR8 1 .e s

/-- `SET 1,H`, `CB CC` (R236). -/
def execSet1H (s : State) : Result := setBitR8 1 .h s

/-- `SET 1,L`, `CB CD` (R236). -/
def execSet1L (s : State) : Result := setBitR8 1 .l s

/-- `SET 1,(HL)`, `CB CE` (R237). -/
def execSet1MHl (s : State) : Result := setBitMemHl 1 s

/-- `SET 1,A`, `CB CF` (R236). -/
def execSet1A (s : State) : Result := setBitR8 1 .a s

/-- `SET 2,B`, `CB D0` (R236). -/
def execSet2B (s : State) : Result := setBitR8 2 .b s

/-- `SET 2,C`, `CB D1` (R236). -/
def execSet2C (s : State) : Result := setBitR8 2 .c s

/-- `SET 2,D`, `CB D2` (R236). -/
def execSet2D (s : State) : Result := setBitR8 2 .d s

/-- `SET 2,E`, `CB D3` (R236). -/
def execSet2E (s : State) : Result := setBitR8 2 .e s

/-- `SET 2,H`, `CB D4` (R236). -/
def execSet2H (s : State) : Result := setBitR8 2 .h s

/-- `SET 2,L`, `CB D5` (R236). -/
def execSet2L (s : State) : Result := setBitR8 2 .l s

/-- `SET 2,(HL)`, `CB D6` (R237). -/
def execSet2MHl (s : State) : Result := setBitMemHl 2 s

/-- `SET 2,A`, `CB D7` (R236). -/
def execSet2A (s : State) : Result := setBitR8 2 .a s

/-- `SET 3,B`, `CB D8` (R236). -/
def execSet3B (s : State) : Result := setBitR8 3 .b s

/-- `SET 3,C`, `CB D9` (R236). -/
def execSet3C (s : State) : Result := setBitR8 3 .c s

/-- `SET 3,D`, `CB DA` (R236). -/
def execSet3D (s : State) : Result := setBitR8 3 .d s

/-- `SET 3,E`, `CB DB` (R236). -/
def execSet3E (s : State) : Result := setBitR8 3 .e s

/-- `SET 3,H`, `CB DC` (R236). -/
def execSet3H (s : State) : Result := setBitR8 3 .h s

/-- `SET 3,L`, `CB DD` (R236). -/
def execSet3L (s : State) : Result := setBitR8 3 .l s

/-- `SET 3,(HL)`, `CB DE` (R237). -/
def execSet3MHl (s : State) : Result := setBitMemHl 3 s

/-- `SET 3,A`, `CB DF` (R236). -/
def execSet3A (s : State) : Result := setBitR8 3 .a s

/-- `SET 4,B`, `CB E0` (R236). -/
def execSet4B (s : State) : Result := setBitR8 4 .b s

/-- `SET 4,C`, `CB E1` (R236). -/
def execSet4C (s : State) : Result := setBitR8 4 .c s

/-- `SET 4,D`, `CB E2` (R236). -/
def execSet4D (s : State) : Result := setBitR8 4 .d s

/-- `SET 4,E`, `CB E3` (R236). -/
def execSet4E (s : State) : Result := setBitR8 4 .e s

/-- `SET 4,H`, `CB E4` (R236). -/
def execSet4H (s : State) : Result := setBitR8 4 .h s

/-- `SET 4,L`, `CB E5` (R236). -/
def execSet4L (s : State) : Result := setBitR8 4 .l s

/-- `SET 4,(HL)`, `CB E6` (R237). -/
def execSet4MHl (s : State) : Result := setBitMemHl 4 s

/-- `SET 4,A`, `CB E7` (R236). -/
def execSet4A (s : State) : Result := setBitR8 4 .a s

/-- `SET 5,B`, `CB E8` (R236). -/
def execSet5B (s : State) : Result := setBitR8 5 .b s

/-- `SET 5,C`, `CB E9` (R236). -/
def execSet5C (s : State) : Result := setBitR8 5 .c s

/-- `SET 5,D`, `CB EA` (R236). -/
def execSet5D (s : State) : Result := setBitR8 5 .d s

/-- `SET 5,E`, `CB EB` (R236). -/
def execSet5E (s : State) : Result := setBitR8 5 .e s

/-- `SET 5,H`, `CB EC` (R236). -/
def execSet5H (s : State) : Result := setBitR8 5 .h s

/-- `SET 5,L`, `CB ED` (R236). -/
def execSet5L (s : State) : Result := setBitR8 5 .l s

/-- `SET 5,(HL)`, `CB EE` (R237). -/
def execSet5MHl (s : State) : Result := setBitMemHl 5 s

/-- `SET 5,A`, `CB EF` (R236). -/
def execSet5A (s : State) : Result := setBitR8 5 .a s

/-- `SET 6,B`, `CB F0` (R236). -/
def execSet6B (s : State) : Result := setBitR8 6 .b s

/-- `SET 6,C`, `CB F1` (R236). -/
def execSet6C (s : State) : Result := setBitR8 6 .c s

/-- `SET 6,D`, `CB F2` (R236). -/
def execSet6D (s : State) : Result := setBitR8 6 .d s

/-- `SET 6,E`, `CB F3` (R236). -/
def execSet6E (s : State) : Result := setBitR8 6 .e s

/-- `SET 6,H`, `CB F4` (R236). -/
def execSet6H (s : State) : Result := setBitR8 6 .h s

/-- `SET 6,L`, `CB F5` (R236). -/
def execSet6L (s : State) : Result := setBitR8 6 .l s

/-- `SET 6,(HL)`, `CB F6` (R237). -/
def execSet6MHl (s : State) : Result := setBitMemHl 6 s

/-- `SET 6,A`, `CB F7` (R236). -/
def execSet6A (s : State) : Result := setBitR8 6 .a s

/-- `SET 7,B`, `CB F8` (R236). -/
def execSet7B (s : State) : Result := setBitR8 7 .b s

/-- `SET 7,C`, `CB F9` (R236). -/
def execSet7C (s : State) : Result := setBitR8 7 .c s

/-- `SET 7,D`, `CB FA` (R236). -/
def execSet7D (s : State) : Result := setBitR8 7 .d s

/-- `SET 7,E`, `CB FB` (R236). -/
def execSet7E (s : State) : Result := setBitR8 7 .e s

/-- `SET 7,H`, `CB FC` (R236). -/
def execSet7H (s : State) : Result := setBitR8 7 .h s

/-- `SET 7,L`, `CB FD` (R236). -/
def execSet7L (s : State) : Result := setBitR8 7 .l s

/-- `SET 7,(HL)`, `CB FE` (R237). -/
def execSet7MHl (s : State) : Result := setBitMemHl 7 s

/-- `SET 7,A`, `CB FF` (R236). -/
def execSet7A (s : State) : Result := setBitR8 7 .a s

end Sys2Proof.Machine
end

