-- ==== Sys2Proof/Machine/Control.lean ====
section
/-! DEFINITION. Jumps, calls, returns and restarts (45_control_transfer.md R250 to R260). None writes a flag. -/

namespace Sys2Proof.Machine

/-- `PC <- target` (R250, R252, R253). -/
def jumpTo (cycles : Nat) (target : Word) (s : State) : Result := done cycles { s with pc := target }

/-- `JP cc,nn` (R251). -/
def jumpIf (cc : Cond) (nn : Word) (s : State) : Result := if s.cond cc then jumpTo 16 nn s else done 12 s

/-- `JR cc,e`: relative to the address after the displacement byte (R254, R112). -/
def jumpRelIf (cc : Cond) (e : Byte) (s : State) : Result :=
  if s.cond cc then jumpTo 12 (addDisplacement s.pc e) s else done 8 s

/-- `CALL cc,nn` (R256). -/
def callIf (cc : Cond) (nn : Word) (s : State) : Result := if s.cond cc then done 24 (callTo s nn) else done 12 s

/-- `RET cc` (R258). -/
def returnIf (cc : Cond) (s : State) : Result := if s.cond cc then done 20 (returnFrom s) else done 8 s

/-- `RST t`, `t = 8 * ttt` (R260). -/
def restart (ttt : Nat) (s : State) : Result := done 16 (callTo s (BitVec.ofNat 16 (8 * ttt)))

/-! ## The instructions -/

/-- `JR e`, `18` (R253). -/
def execJrE (e : Byte) (s : State) : Result := jumpTo 12 (addDisplacement s.pc e) s

/-- `JR NZ,e`, `20` (R254). -/
def execJrNzE (e : Byte) (s : State) : Result := jumpRelIf .nz e s

/-- `JR Z,e`, `28` (R254). -/
def execJrZE (e : Byte) (s : State) : Result := jumpRelIf .z e s

/-- `JR NC,e`, `30` (R254). -/
def execJrNcE (e : Byte) (s : State) : Result := jumpRelIf .nc e s

/-- `JR C,e`, `38` (R254). -/
def execJrCE (e : Byte) (s : State) : Result := jumpRelIf .c e s

/-- `RET NZ`, `C0` (R258). -/
def execRetNz (s : State) : Result := returnIf .nz s

/-- `JP NZ,nn`, `C2` (R251). -/
def execJpNzNn (nn : Word) (s : State) : Result := jumpIf .nz nn s

/-- `JP nn`, `C3` (R250). -/
def execJpNn (nn : Word) (s : State) : Result := jumpTo 16 nn s

/-- `CALL NZ,nn`, `C4` (R256). -/
def execCallNzNn (nn : Word) (s : State) : Result := callIf .nz nn s

/-- `RST 0x00`, `C7` (R260). -/
def execRst00 (s : State) : Result := restart 0 s

/-- `RET Z`, `C8` (R258). -/
def execRetZ (s : State) : Result := returnIf .z s

/-- `RET`, `C9` (R257). -/
def execRet (s : State) : Result := done 16 (returnFrom s)

/-- `JP Z,nn`, `CA` (R251). -/
def execJpZNn (nn : Word) (s : State) : Result := jumpIf .z nn s

/-- `CALL Z,nn`, `CC` (R256). -/
def execCallZNn (nn : Word) (s : State) : Result := callIf .z nn s

/-- `CALL nn`, `CD` (R255). -/
def execCallNn (nn : Word) (s : State) : Result := done 24 (callTo s nn)

/-- `RST 0x08`, `CF` (R260). -/
def execRst08 (s : State) : Result := restart 1 s

/-- `RET NC`, `D0` (R258). -/
def execRetNc (s : State) : Result := returnIf .nc s

/-- `JP NC,nn`, `D2` (R251). -/
def execJpNcNn (nn : Word) (s : State) : Result := jumpIf .nc nn s

/-- `CALL NC,nn`, `D4` (R256). -/
def execCallNcNn (nn : Word) (s : State) : Result := callIf .nc nn s

/-- `RST 0x10`, `D7` (R260). -/
def execRst10 (s : State) : Result := restart 2 s

/-- `RET C`, `D8` (R258). -/
def execRetC (s : State) : Result := returnIf .c s

/-- `RETI`, `D9` (R259). -/
def execReti (s : State) : Result := done 16 (enableAtOnce (returnFrom s))

/-- `JP C,nn`, `DA` (R251). -/
def execJpCNn (nn : Word) (s : State) : Result := jumpIf .c nn s

/-- `CALL C,nn`, `DC` (R256). -/
def execCallCNn (nn : Word) (s : State) : Result := callIf .c nn s

/-- `RST 0x18`, `DF` (R260). -/
def execRst18 (s : State) : Result := restart 3 s

/-- `RST 0x20`, `E7` (R260). -/
def execRst20 (s : State) : Result := restart 4 s

/-- `JP HL`, `E9` (R252). -/
def execJpHl (s : State) : Result := jumpTo 4 s.hl s

/-- `RST 0x28`, `EF` (R260). -/
def execRst28 (s : State) : Result := restart 5 s

/-- `RST 0x30`, `F7` (R260). -/
def execRst30 (s : State) : Result := restart 6 s

/-- `RST 0x38`, `FF` (R260). -/
def execRst38 (s : State) : Result := restart 7 s

end Sys2Proof.Machine
end

