-- ==== Sys2Proof/Machine/Load16.lean ====
section
/-! DEFINITION. 16-bit loads and the stack (41_load16_stack.md R160 to R165). -/

namespace Sys2Proof.Machine

/-- `r16[pp] <- nn` (R160). -/
def loadPair (p : R16) (nn : Word) (s : State) : Result := done 12 (s.setR16 p nn)

/-- `HL <- SP + e`, with the flags of R219 (R163). -/
def loadHlSpE (e : Byte) (s : State) : Result :=
  let o := spPlusE s.sp e
  done 12 ((s.setHl o.r).setFlags false false o.h o.c)

/-- `Push16(r16stk[pp])` (R164). -/
def pushPair (p : R16Stk) (s : State) : Result := done 16 (push16 s (s.r16stk p))

/-- `r16stk[pp] <- Pop16()` (R165). -/
def popPair (p : R16Stk) (s : State) : Result := done 12 ((popped s).setR16stk p (popWord s))

/-! ## The instructions -/

/-- `LD BC,nn`, `01` (R160). -/
def execLdBcNn (nn : Word) (s : State) : Result := loadPair .bc nn s

/-- `LD (nn),SP`, `08` (R161). -/
def execLdMNnSp (nn : Word) (s : State) : Result := done 20 (cpuWrite16 s nn s.sp)

/-- `LD DE,nn`, `11` (R160). -/
def execLdDeNn (nn : Word) (s : State) : Result := loadPair .de nn s

/-- `LD HL,nn`, `21` (R160). -/
def execLdHlNn (nn : Word) (s : State) : Result := loadPair .hl nn s

/-- `LD SP,nn`, `31` (R160). -/
def execLdSpNn (nn : Word) (s : State) : Result := loadPair .sp nn s

/-- `POP BC`, `C1` (R165). -/
def execPopBc (s : State) : Result := popPair .bc s

/-- `PUSH BC`, `C5` (R164). -/
def execPushBc (s : State) : Result := pushPair .bc s

/-- `POP DE`, `D1` (R165). -/
def execPopDe (s : State) : Result := popPair .de s

/-- `PUSH DE`, `D5` (R164). -/
def execPushDe (s : State) : Result := pushPair .de s

/-- `POP HL`, `E1` (R165). -/
def execPopHl (s : State) : Result := popPair .hl s

/-- `PUSH HL`, `E5` (R164). -/
def execPushHl (s : State) : Result := pushPair .hl s

/-- `POP AF`, `F1` (R165). -/
def execPopAf (s : State) : Result := popPair .af s

/-- `PUSH AF`, `F5` (R164). -/
def execPushAf (s : State) : Result := pushPair .af s

/-- `LD HL,SP+e`, `F8` (R163). -/
def execLdHlSpE (e : Byte) (s : State) : Result := loadHlSpE e s

/-- `LD SP,HL`, `F9` (R162). -/
def execLdSpHl (s : State) : Result := done 8 { s with sp := s.hl }

end Sys2Proof.Machine
end

