-- ==== Sys2Proof/Machine/Load8.lean ====
section
/-! DEFINITION. 8-bit loads and stores (40_load8.md R130 to R149). None writes a flag; a store that the bus refuses
stores nothing and the instruction completes as usual. -/

namespace Sys2Proof.Machine

/-- `r8[ddd] <- r8[sss]` (R130). -/
def loadReg (rd r : R8) (s : State) : Result := done 4 (s.setR8 rd (s.r8 r))

/-- `r8[ddd] <- n` (R131). -/
def loadImm (rd : R8) (n : Byte) (s : State) : Result := done 8 (s.setR8 rd n)

/-- `r8[ddd] <- MemRead(HL, 1)` (R132). -/
def loadFromHl (rd : R8) (s : State) : Result := done 8 (s.setR8 rd s.memHl)

/-- `MemWrite(HL, 1, r8[sss])` (R133). -/
def storeToHl (r : R8) (s : State) : Result := done 8 (s.setMemHl (s.r8 r))

/-- `A <- MemRead(addr, 1)` (R135, R136, R139, R147, R149). -/
def loadA (cycles : Nat) (addr : Word) (s : State) : Result := done cycles (s.setR8 .a (cpuRead s addr))

/-- `MemWrite(addr, 1, A)` (R137, R138, R140, R146, R148). -/
def storeA (cycles : Nat) (addr : Word) (s : State) : Result := done cycles (cpuWrite s addr s.a)

/-! ## The instructions -/

/-- `LD (BC),A`, `02` (R137). -/
def execLdMBcA (s : State) : Result := storeA 8 s.bc s

/-- `LD B,n`, `06` (R131). -/
def execLdBN (n : Byte) (s : State) : Result := loadImm .b n s

/-- `LD A,(BC)`, `0A` (R135). -/
def execLdAMBc (s : State) : Result := loadA 8 s.bc s

/-- `LD C,n`, `0E` (R131). -/
def execLdCN (n : Byte) (s : State) : Result := loadImm .c n s

/-- `LD (DE),A`, `12` (R138). -/
def execLdMDeA (s : State) : Result := storeA 8 s.de s

/-- `LD D,n`, `16` (R131). -/
def execLdDN (n : Byte) (s : State) : Result := loadImm .d n s

/-- `LD A,(DE)`, `1A` (R136). -/
def execLdAMDe (s : State) : Result := loadA 8 s.de s

/-- `LD E,n`, `1E` (R131). -/
def execLdEN (n : Byte) (s : State) : Result := loadImm .e n s

/-- `LD (HL+),A`, `22` (R141). -/
def execLdMHliA (s : State) : Result := done 8 ((cpuWrite s s.hl s.a).setHl (s.hl + 1))

/-- `LD H,n`, `26` (R131). -/
def execLdHN (n : Byte) (s : State) : Result := loadImm .h n s

/-- `LD A,(HL+)`, `2A` (R143). -/
def execLdAMHli (s : State) : Result := done 8 ((s.setR8 .a s.memHl).setHl (s.hl + 1))

/-- `LD L,n`, `2E` (R131). -/
def execLdLN (n : Byte) (s : State) : Result := loadImm .l n s

/-- `LD (HL-),A`, `32` (R142). -/
def execLdMHldA (s : State) : Result := done 8 ((cpuWrite s s.hl s.a).setHl (s.hl - 1))

/-- `LD (HL),n`, `36` (R134). -/
def execLdMHlN (n : Byte) (s : State) : Result := done 12 (s.setMemHl n)

/-- `LD A,(HL-)`, `3A` (R144). -/
def execLdAMHld (s : State) : Result := done 8 ((s.setR8 .a s.memHl).setHl (s.hl - 1))

/-- `LD A,n`, `3E` (R131). -/
def execLdAN (n : Byte) (s : State) : Result := loadImm .a n s

/-- `LD B,B`, `40` (R130). -/
def execLdBB (s : State) : Result := loadReg .b .b s

/-- `LD B,C`, `41` (R130). -/
def execLdBC (s : State) : Result := loadReg .b .c s

/-- `LD B,D`, `42` (R130). -/
def execLdBD (s : State) : Result := loadReg .b .d s

/-- `LD B,E`, `43` (R130). -/
def execLdBE (s : State) : Result := loadReg .b .e s

/-- `LD B,H`, `44` (R130). -/
def execLdBH (s : State) : Result := loadReg .b .h s

/-- `LD B,L`, `45` (R130). -/
def execLdBL (s : State) : Result := loadReg .b .l s

/-- `LD B,(HL)`, `46` (R132). -/
def execLdBMHl (s : State) : Result := loadFromHl .b s

/-- `LD B,A`, `47` (R130). -/
def execLdBA (s : State) : Result := loadReg .b .a s

/-- `LD C,B`, `48` (R130). -/
def execLdCB (s : State) : Result := loadReg .c .b s

/-- `LD C,C`, `49` (R130). -/
def execLdCC (s : State) : Result := loadReg .c .c s

/-- `LD C,D`, `4A` (R130). -/
def execLdCD (s : State) : Result := loadReg .c .d s

/-- `LD C,E`, `4B` (R130). -/
def execLdCE (s : State) : Result := loadReg .c .e s

/-- `LD C,H`, `4C` (R130). -/
def execLdCH (s : State) : Result := loadReg .c .h s

/-- `LD C,L`, `4D` (R130). -/
def execLdCL (s : State) : Result := loadReg .c .l s

/-- `LD C,(HL)`, `4E` (R132). -/
def execLdCMHl (s : State) : Result := loadFromHl .c s

/-- `LD C,A`, `4F` (R130). -/
def execLdCA (s : State) : Result := loadReg .c .a s

/-- `LD D,B`, `50` (R130). -/
def execLdDB (s : State) : Result := loadReg .d .b s

/-- `LD D,C`, `51` (R130). -/
def execLdDC (s : State) : Result := loadReg .d .c s

/-- `LD D,D`, `52` (R130). -/
def execLdDD (s : State) : Result := loadReg .d .d s

/-- `LD D,E`, `53` (R130). -/
def execLdDE (s : State) : Result := loadReg .d .e s

/-- `LD D,H`, `54` (R130). -/
def execLdDH (s : State) : Result := loadReg .d .h s

/-- `LD D,L`, `55` (R130). -/
def execLdDL (s : State) : Result := loadReg .d .l s

/-- `LD D,(HL)`, `56` (R132). -/
def execLdDMHl (s : State) : Result := loadFromHl .d s

/-- `LD D,A`, `57` (R130). -/
def execLdDA (s : State) : Result := loadReg .d .a s

/-- `LD E,B`, `58` (R130). -/
def execLdEB (s : State) : Result := loadReg .e .b s

/-- `LD E,C`, `59` (R130). -/
def execLdEC (s : State) : Result := loadReg .e .c s

/-- `LD E,D`, `5A` (R130). -/
def execLdED (s : State) : Result := loadReg .e .d s

/-- `LD E,E`, `5B` (R130). -/
def execLdEE (s : State) : Result := loadReg .e .e s

/-- `LD E,H`, `5C` (R130). -/
def execLdEH (s : State) : Result := loadReg .e .h s

/-- `LD E,L`, `5D` (R130). -/
def execLdEL (s : State) : Result := loadReg .e .l s

/-- `LD E,(HL)`, `5E` (R132). -/
def execLdEMHl (s : State) : Result := loadFromHl .e s

/-- `LD E,A`, `5F` (R130). -/
def execLdEA (s : State) : Result := loadReg .e .a s

/-- `LD H,B`, `60` (R130). -/
def execLdHB (s : State) : Result := loadReg .h .b s

/-- `LD H,C`, `61` (R130). -/
def execLdHC (s : State) : Result := loadReg .h .c s

/-- `LD H,D`, `62` (R130). -/
def execLdHD (s : State) : Result := loadReg .h .d s

/-- `LD H,E`, `63` (R130). -/
def execLdHE (s : State) : Result := loadReg .h .e s

/-- `LD H,H`, `64` (R130). -/
def execLdHH (s : State) : Result := loadReg .h .h s

/-- `LD H,L`, `65` (R130). -/
def execLdHL (s : State) : Result := loadReg .h .l s

/-- `LD H,(HL)`, `66` (R132). -/
def execLdHMHl (s : State) : Result := loadFromHl .h s

/-- `LD H,A`, `67` (R130). -/
def execLdHA (s : State) : Result := loadReg .h .a s

/-- `LD L,B`, `68` (R130). -/
def execLdLB (s : State) : Result := loadReg .l .b s

/-- `LD L,C`, `69` (R130). -/
def execLdLC (s : State) : Result := loadReg .l .c s

/-- `LD L,D`, `6A` (R130). -/
def execLdLD (s : State) : Result := loadReg .l .d s

/-- `LD L,E`, `6B` (R130). -/
def execLdLE (s : State) : Result := loadReg .l .e s

/-- `LD L,H`, `6C` (R130). -/
def execLdLH (s : State) : Result := loadReg .l .h s

/-- `LD L,L`, `6D` (R130). -/
def execLdLL (s : State) : Result := loadReg .l .l s

/-- `LD L,(HL)`, `6E` (R132). -/
def execLdLMHl (s : State) : Result := loadFromHl .l s

/-- `LD L,A`, `6F` (R130). -/
def execLdLA (s : State) : Result := loadReg .l .a s

/-- `LD (HL),B`, `70` (R133). -/
def execLdMHlB (s : State) : Result := storeToHl .b s

/-- `LD (HL),C`, `71` (R133). -/
def execLdMHlC (s : State) : Result := storeToHl .c s

/-- `LD (HL),D`, `72` (R133). -/
def execLdMHlD (s : State) : Result := storeToHl .d s

/-- `LD (HL),E`, `73` (R133). -/
def execLdMHlE (s : State) : Result := storeToHl .e s

/-- `LD (HL),H`, `74` (R133). -/
def execLdMHlH (s : State) : Result := storeToHl .h s

/-- `LD (HL),L`, `75` (R133). -/
def execLdMHlL (s : State) : Result := storeToHl .l s

/-- `LD (HL),A`, `77` (R133). -/
def execLdMHlA (s : State) : Result := storeToHl .a s

/-- `LD A,B`, `78` (R130). -/
def execLdAB (s : State) : Result := loadReg .a .b s

/-- `LD A,C`, `79` (R130). -/
def execLdAC (s : State) : Result := loadReg .a .c s

/-- `LD A,D`, `7A` (R130). -/
def execLdAD (s : State) : Result := loadReg .a .d s

/-- `LD A,E`, `7B` (R130). -/
def execLdAE (s : State) : Result := loadReg .a .e s

/-- `LD A,H`, `7C` (R130). -/
def execLdAH (s : State) : Result := loadReg .a .h s

/-- `LD A,L`, `7D` (R130). -/
def execLdAL (s : State) : Result := loadReg .a .l s

/-- `LD A,(HL)`, `7E` (R132). -/
def execLdAMHl (s : State) : Result := loadFromHl .a s

/-- `LD A,A`, `7F` (R130). -/
def execLdAA (s : State) : Result := loadReg .a .a s

/-- `LDH (n),A`, `E0` (R146). -/
def execLdhMNA (n : Byte) (s : State) : Result := storeA 12 (highPage n) s

/-- `LDH (C),A`, `E2` (R148). -/
def execLdhMCA (s : State) : Result := storeA 8 (highPage s.c) s

/-- `LD (nn),A`, `EA` (R140). -/
def execLdMNnA (nn : Word) (s : State) : Result := storeA 16 nn s

/-- `LDH A,(n)`, `F0` (R147). -/
def execLdhAMN (n : Byte) (s : State) : Result := loadA 12 (highPage n) s

/-- `LDH A,(C)`, `F2` (R149). -/
def execLdhAMC (s : State) : Result := loadA 8 (highPage s.c) s

/-- `LD A,(nn)`, `FA` (R139). -/
def execLdAMNn (nn : Word) (s : State) : Result := loadA 16 nn s

end Sys2Proof.Machine
end

