-- ==== Sys2Proof/Machine/Rotate.lean ====
section
/-! DEFINITION. Rotates, shifts and the nibble swap (44_rotate_shift_bit.md R220 to R231, R238). -/

namespace Sys2Proof.Machine

/-- The one-byte accumulator rotates: `Z` is always 0 (R220 to R223). -/
def rotateA (op : ShiftOp) (s : State) : Result :=
  let o := shift8 op s.a s.fC
  done 4 ({ s with a := o.1 }.setFlags false false false o.2)

/-- The flags of a prefixed rotate or shift with the outcome `o` (R224 to R231). -/
def shiftFlags (o : Byte × Bool) (s : State) : State := s.setFlags (o.1 == 0) false false o.2

/-- A prefixed rotate or shift of a register (R238). -/
def shiftR8 (op : ShiftOp) (r : R8) (s : State) : Result :=
  let o := shift8 op (s.r8 r) s.fC
  done 8 (shiftFlags o (s.setR8 r o.1))

/-- A prefixed rotate or shift of `(HL)`: one read, then one write (R238). -/
def shiftMemHl (op : ShiftOp) (s : State) : Result :=
  let o := shift8 op s.memHl s.fC
  done 16 (shiftFlags o (s.setMemHl o.1))

/-! ## The instructions -/

/-- `RLCA`, `07` (R220). -/
def execRlca (s : State) : Result := rotateA .rlc s

/-- `RRCA`, `0F` (R221). -/
def execRrca (s : State) : Result := rotateA .rrc s

/-- `RLA`, `17` (R222). -/
def execRla (s : State) : Result := rotateA .rl s

/-- `RRA`, `1F` (R223). -/
def execRra (s : State) : Result := rotateA .rr s

/-- `RLC B`, `CB 00` (R224). -/
def execRlcB (s : State) : Result := shiftR8 .rlc .b s

/-- `RLC C`, `CB 01` (R224). -/
def execRlcC (s : State) : Result := shiftR8 .rlc .c s

/-- `RLC D`, `CB 02` (R224). -/
def execRlcD (s : State) : Result := shiftR8 .rlc .d s

/-- `RLC E`, `CB 03` (R224). -/
def execRlcE (s : State) : Result := shiftR8 .rlc .e s

/-- `RLC H`, `CB 04` (R224). -/
def execRlcH (s : State) : Result := shiftR8 .rlc .h s

/-- `RLC L`, `CB 05` (R224). -/
def execRlcL (s : State) : Result := shiftR8 .rlc .l s

/-- `RLC (HL)`, `CB 06` (R224). -/
def execRlcMHl (s : State) : Result := shiftMemHl .rlc s

/-- `RLC A`, `CB 07` (R224). -/
def execRlcA (s : State) : Result := shiftR8 .rlc .a s

/-- `RRC B`, `CB 08` (R225). -/
def execRrcB (s : State) : Result := shiftR8 .rrc .b s

/-- `RRC C`, `CB 09` (R225). -/
def execRrcC (s : State) : Result := shiftR8 .rrc .c s

/-- `RRC D`, `CB 0A` (R225). -/
def execRrcD (s : State) : Result := shiftR8 .rrc .d s

/-- `RRC E`, `CB 0B` (R225). -/
def execRrcE (s : State) : Result := shiftR8 .rrc .e s

/-- `RRC H`, `CB 0C` (R225). -/
def execRrcH (s : State) : Result := shiftR8 .rrc .h s

/-- `RRC L`, `CB 0D` (R225). -/
def execRrcL (s : State) : Result := shiftR8 .rrc .l s

/-- `RRC (HL)`, `CB 0E` (R225). -/
def execRrcMHl (s : State) : Result := shiftMemHl .rrc s

/-- `RRC A`, `CB 0F` (R225). -/
def execRrcA (s : State) : Result := shiftR8 .rrc .a s

/-- `RL B`, `CB 10` (R226). -/
def execRlB (s : State) : Result := shiftR8 .rl .b s

/-- `RL C`, `CB 11` (R226). -/
def execRlC (s : State) : Result := shiftR8 .rl .c s

/-- `RL D`, `CB 12` (R226). -/
def execRlD (s : State) : Result := shiftR8 .rl .d s

/-- `RL E`, `CB 13` (R226). -/
def execRlE (s : State) : Result := shiftR8 .rl .e s

/-- `RL H`, `CB 14` (R226). -/
def execRlH (s : State) : Result := shiftR8 .rl .h s

/-- `RL L`, `CB 15` (R226). -/
def execRlL (s : State) : Result := shiftR8 .rl .l s

/-- `RL (HL)`, `CB 16` (R226). -/
def execRlMHl (s : State) : Result := shiftMemHl .rl s

/-- `RL A`, `CB 17` (R226). -/
def execRlA (s : State) : Result := shiftR8 .rl .a s

/-- `RR B`, `CB 18` (R227). -/
def execRrB (s : State) : Result := shiftR8 .rr .b s

/-- `RR C`, `CB 19` (R227). -/
def execRrC (s : State) : Result := shiftR8 .rr .c s

/-- `RR D`, `CB 1A` (R227). -/
def execRrD (s : State) : Result := shiftR8 .rr .d s

/-- `RR E`, `CB 1B` (R227). -/
def execRrE (s : State) : Result := shiftR8 .rr .e s

/-- `RR H`, `CB 1C` (R227). -/
def execRrH (s : State) : Result := shiftR8 .rr .h s

/-- `RR L`, `CB 1D` (R227). -/
def execRrL (s : State) : Result := shiftR8 .rr .l s

/-- `RR (HL)`, `CB 1E` (R227). -/
def execRrMHl (s : State) : Result := shiftMemHl .rr s

/-- `RR A`, `CB 1F` (R227). -/
def execRrA (s : State) : Result := shiftR8 .rr .a s

/-- `SLA B`, `CB 20` (R228). -/
def execSlaB (s : State) : Result := shiftR8 .sla .b s

/-- `SLA C`, `CB 21` (R228). -/
def execSlaC (s : State) : Result := shiftR8 .sla .c s

/-- `SLA D`, `CB 22` (R228). -/
def execSlaD (s : State) : Result := shiftR8 .sla .d s

/-- `SLA E`, `CB 23` (R228). -/
def execSlaE (s : State) : Result := shiftR8 .sla .e s

/-- `SLA H`, `CB 24` (R228). -/
def execSlaH (s : State) : Result := shiftR8 .sla .h s

/-- `SLA L`, `CB 25` (R228). -/
def execSlaL (s : State) : Result := shiftR8 .sla .l s

/-- `SLA (HL)`, `CB 26` (R228). -/
def execSlaMHl (s : State) : Result := shiftMemHl .sla s

/-- `SLA A`, `CB 27` (R228). -/
def execSlaA (s : State) : Result := shiftR8 .sla .a s

/-- `SRA B`, `CB 28` (R229). -/
def execSraB (s : State) : Result := shiftR8 .sra .b s

/-- `SRA C`, `CB 29` (R229). -/
def execSraC (s : State) : Result := shiftR8 .sra .c s

/-- `SRA D`, `CB 2A` (R229). -/
def execSraD (s : State) : Result := shiftR8 .sra .d s

/-- `SRA E`, `CB 2B` (R229). -/
def execSraE (s : State) : Result := shiftR8 .sra .e s

/-- `SRA H`, `CB 2C` (R229). -/
def execSraH (s : State) : Result := shiftR8 .sra .h s

/-- `SRA L`, `CB 2D` (R229). -/
def execSraL (s : State) : Result := shiftR8 .sra .l s

/-- `SRA (HL)`, `CB 2E` (R229). -/
def execSraMHl (s : State) : Result := shiftMemHl .sra s

/-- `SRA A`, `CB 2F` (R229). -/
def execSraA (s : State) : Result := shiftR8 .sra .a s

/-- `SWAP B`, `CB 30` (R230). -/
def execSwapB (s : State) : Result := shiftR8 .swap .b s

/-- `SWAP C`, `CB 31` (R230). -/
def execSwapC (s : State) : Result := shiftR8 .swap .c s

/-- `SWAP D`, `CB 32` (R230). -/
def execSwapD (s : State) : Result := shiftR8 .swap .d s

/-- `SWAP E`, `CB 33` (R230). -/
def execSwapE (s : State) : Result := shiftR8 .swap .e s

/-- `SWAP H`, `CB 34` (R230). -/
def execSwapH (s : State) : Result := shiftR8 .swap .h s

/-- `SWAP L`, `CB 35` (R230). -/
def execSwapL (s : State) : Result := shiftR8 .swap .l s

/-- `SWAP (HL)`, `CB 36` (R230). -/
def execSwapMHl (s : State) : Result := shiftMemHl .swap s

/-- `SWAP A`, `CB 37` (R230). -/
def execSwapA (s : State) : Result := shiftR8 .swap .a s

/-- `SRL B`, `CB 38` (R231). -/
def execSrlB (s : State) : Result := shiftR8 .srl .b s

/-- `SRL C`, `CB 39` (R231). -/
def execSrlC (s : State) : Result := shiftR8 .srl .c s

/-- `SRL D`, `CB 3A` (R231). -/
def execSrlD (s : State) : Result := shiftR8 .srl .d s

/-- `SRL E`, `CB 3B` (R231). -/
def execSrlE (s : State) : Result := shiftR8 .srl .e s

/-- `SRL H`, `CB 3C` (R231). -/
def execSrlH (s : State) : Result := shiftR8 .srl .h s

/-- `SRL L`, `CB 3D` (R231). -/
def execSrlL (s : State) : Result := shiftR8 .srl .l s

/-- `SRL (HL)`, `CB 3E` (R231). -/
def execSrlMHl (s : State) : Result := shiftMemHl .srl s

/-- `SRL A`, `CB 3F` (R231). -/
def execSrlA (s : State) : Result := shiftR8 .srl .a s

end Sys2Proof.Machine
end

