-- ==== Sys2Proof/Machine/System.lean ====
section
/-! DEFINITION. System instructions and the bytes that select no instruction (46_system.md R270 to R277). -/

namespace Sys2Proof.Machine

/-- `HALT` (R272): the wait quirk when the master enable is off and a request is pending (R273), else the wait. -/
def waitForInterrupt (s : State) : State :=
  if s.ime = false ∧ s.pending ≠ 0 then { s with haltBug := true } else { s with runState := .halted }

/-! ## The instructions -/

/-- `NOP`, `00` (R270). -/
def execNop (s : State) : Result := done 4 s

/-- `STOP`, `10` (R276). -/
def execStop (_n : Byte) (s : State) : Result := done 4 { s with runState := .stopped }

/-- `HALT`, `76` (R272). -/
def execHalt (s : State) : Result := done 4 (waitForInterrupt s)

/-- `ILLEGAL`, `D3` (R277). -/
def execIllegalD3 (s : State) : Result := illegalOpcode 0xD3 s

/-- `ILLEGAL`, `DB` (R277). -/
def execIllegalDB (s : State) : Result := illegalOpcode 0xDB s

/-- `ILLEGAL`, `DD` (R277). -/
def execIllegalDD (s : State) : Result := illegalOpcode 0xDD s

/-- `ILLEGAL`, `E3` (R277). -/
def execIllegalE3 (s : State) : Result := illegalOpcode 0xE3 s

/-- `ILLEGAL`, `E4` (R277). -/
def execIllegalE4 (s : State) : Result := illegalOpcode 0xE4 s

/-- `ILLEGAL`, `EB` (R277). -/
def execIllegalEB (s : State) : Result := illegalOpcode 0xEB s

/-- `ILLEGAL`, `EC` (R277). -/
def execIllegalEC (s : State) : Result := illegalOpcode 0xEC s

/-- `ILLEGAL`, `ED` (R277). -/
def execIllegalED (s : State) : Result := illegalOpcode 0xED s

/-- `DI`, `F3` (R274). -/
def execDi (s : State) : Result := done 4 { s with ime := false, imeDelay := 0 }

/-- `ILLEGAL`, `F4` (R277). -/
def execIllegalF4 (s : State) : Result := illegalOpcode 0xF4 s

/-- `EI`, `FB` (R275). -/
def execEi (s : State) : Result := done 4 (if s.ime = false ∧ s.imeDelay = 0 then { s with imeDelay := 2 } else s)

/-- `ILLEGAL`, `FC` (R277). -/
def execIllegalFC (s : State) : Result := illegalOpcode 0xFC s

/-- `ILLEGAL`, `FD` (R277). -/
def execIllegalFD (s : State) : Result := illegalOpcode 0xFD s

end Sys2Proof.Machine
end

