-- ==== Sys2Proof/Machine/Step.lean ====
section
/-! DEFINITION. The step of the block: one system step (00_scope.md R8), a CPU step (60_exceptions.md R410) and then the
ticks it pays for. -/

namespace Sys2Proof.Machine

/-- One system step. A machine whose `run_state` is `Faulted` reports the recorded fault and changes nothing (R400); a
faulting CPU step returns no cycles, so nothing ticks after it (R277). -/
def step (s : State) : Host.Outcome State Fault Refusal :=
  match beginStep s with
  | .terminal op addr => .fault (.illegalOpcode op addr s)
  | .over t => .next (systemTail t)
  | .run t =>
    match exec (fetchInstr t) (fetched t) with
    | .next u => .next (systemTail u)
    | .fault r => .fault r
    | .refused r => .refused r

/-- `s` with the instruction of an opcode-table row placed where the next step fetches it (log entry 7). -/
def State.withFetchWord (s : State) (nbits w : Nat) : State :=
  placeAtPc (tableBytes nbits w) (fetchPlace (readyToFetch s))

end Sys2Proof.Machine
end

