-- ==== Sys2Proof/Machine/Boot.lean ====
section
/-! DEFINITION. Construction, which is the machine's only reset (70_reset_and_hazards.md R440; 60_exceptions.md R401):
from a cartridge image, the contents of the RAMs (`INIT_RAM`, R445, R446) and the presence of cartridge RAM. -/

namespace Sys2Proof.Machine

/-- The cartridge's ROM: the first `0x8000` bytes of the image; the excess is unreachable (R70, R445). -/
def romOf (image : List Byte) : Memory := Memory.ofBytes 0 (image.take Config.romSize)

/-- The memories after construction: the image, and `initRam` in every cell above ROM (R445, R446). -/
def initialMemory (image : List Byte) (initRam : List Host.Cell) : Memory :=
  initRam.foldl (fun m p => if Config.romSize ≤ p.1 && isCell p.1 then m.write p.1 p.2 else m) (romOf image)

/-- Construction (R440): none where the image is too short (R401), else the state of R441 to R447. -/
def State.construct (image : List Byte) (initRam : List Host.Cell) (cartRam : Bool) : Option State :=
  if image.length < Config.romSize then none
  else some { State.reset with mem := initialMemory image initRam, cartRamPresent := cartRam }

end Sys2Proof.Machine
end

