-- ==== Sys2Proof/Safety.lean ====
section
/-! DEFINITION. The terms that claims about the machine are stated in: the invariant that every step keeps (10_state.md R44
and the ranges of R41), what an instruction may leave changed, and the forms of operand that a claim quantifies over. -/

namespace Sys2Proof

/-! ## The codes of the operand fields -/

/-- The 3-bit code of a register (R104). -/
def R8.code : R8 → Nat
  | .b => 0
  | .c => 1
  | .d => 2
  | .e => 3
  | .h => 4
  | .l => 5
  | .a => 7

/-- The 2-bit code of a pair (R105). -/
def R16.code : R16 → Nat
  | .bc => 0
  | .de => 1
  | .hl => 2
  | .sp => 3

/-- The 2-bit code of a pair of the stack instructions (R106). -/
def R16Stk.code : R16Stk → Nat
  | .bc => 0
  | .de => 1
  | .hl => 2
  | .af => 3

/-- The 2-bit code of a condition (R107). -/
def Cond.code : Cond → Nat
  | .nz => 0
  | .z => 1
  | .nc => 2
  | .c => 3

/-- The 3-bit code of an arithmetic operation (R108). -/
def AluOp.code : AluOp → Nat
  | .add => 0
  | .adc => 1
  | .sub => 2
  | .sbc => 3
  | .and => 4
  | .xor => 5
  | .or => 6
  | .cp => 7

/-- The 3-bit code of a prefixed rotate or shift (R109). -/
def ShiftOp.code : ShiftOp → Nat
  | .rlc => 0
  | .rrc => 1
  | .rl => 2
  | .rr => 3
  | .sla => 4
  | .sra => 5
  | .swap => 6
  | .srl => 7

end Sys2Proof

namespace Sys2Proof.Machine

/-! ## The invariant -/

/-- The most the window's line counter can hold (R356): one row for each line rendered so far in the frame. -/
def Ppu.winBound (p : Ppu) : Nat :=
  if p.ly < Config.visibleLines then
    if p.mode = .pixelTransfer ∨ p.mode = .hblank then p.ly + 1 else p.ly
  else Config.visibleLines

/-- The PPU: counters in range (R304, R305), the mode a function of them while the LCD is on (R303, R312), everything at
rest while it is off (R317, R318), the window's line counter in range (R356). -/
abbrev Ppu.Inv (p : Ppu) : Prop :=
  p.dot < Config.dotsPerLine ∧ p.ly < Config.linesPerFrame ∧
    (p.lcdOn = true → p.mode = modeOf p.ly p.dot ∧ p.winLine ≤ p.winBound) ∧
    (p.lcdOn = false → p.ly = 0 ∧ p.dot = 0 ∧ p.mode = .hblank ∧ p.statLine = false ∧ p.winLine = 0)

/-- The DMA sequencer: counters in range, and at rest while idle (R380). -/
abbrev Dma.Inv (d : Dma) : Prop :=
  d.offset < Config.dmaBytes ∧ d.sub < Config.machineCycle ∧ (d.active = false → d.offset = 0 ∧ d.sub = 0)

/-- The invariant of the machine (R44, R33): the flag register's low nibble is zero, a pending enable means the master
enable is off, the PPU and the sequencer are in range, and memory is in its canonical form over real cells. -/
abbrev State.Inv (s : State) : Prop :=
  s.f &&& 0x0F = 0 ∧ s.imeDelay ≤ 2 ∧ (s.imeDelay ≠ 0 → s.ime = false) ∧ s.ppu.Inv ∧ s.dma.Inv ∧
    s.mem.wf ∧ s.mem.backed

/-! ## What an instruction leaves unchanged -/

/-- The four flags of a state, and the low nibble of `F`, which is always zero (R27, R28). -/
def FlagsAre (t : State) (z n h c : Bool) : Prop :=
  t.fZ = z ∧ t.fN = n ∧ t.fH = h ∧ t.fC = c ∧ t.f &&& 0x0F = 0

/-- Every address reads the same. -/
def ReadsSame (s t : State) : Prop := ∀ x, cpuRead t x = cpuRead s x

/-- Nothing but what a write on the bus can reach differs: memory, the PPU, the sequencer, `IE` and `IF`. -/
def KeepsCpu (s t : State) : Prop :=
  t = { s with mem := t.mem, ppu := t.ppu, dma := t.dma, ie := t.ie, ifr := t.ifr }

/-- The PPU registers a write can reach (R77). -/
def isPpuRegister (a : Word) : Bool := 0xFF40 ≤ a.toNat && a.toNat ≤ 0xFF4B && a != 0xFF46

/-- What writes to the addresses `as`, and to no other, leave unchanged: every cell that is none of theirs, `IE`, `IF`, the
PPU and the sequencer unless one of them is that register, and every byte as the CPU reads it, unless one of them
is `LCDC`, `LYC` or `DMA`, whose write changes what other addresses read as (R301, R318, R64). -/
def StoreFrame (as : List Word) (s t : State) : Prop :=
  (∀ k, k ∉ as.map cellOf → t.mem.read k = s.mem.read k) ∧
    (0xFFFF ∉ as → t.ie = s.ie) ∧ (0xFF0F ∉ as → t.ifr = s.ifr) ∧ (0xFF46 ∉ as → t.dma = s.dma) ∧
    ((∀ a ∈ as, isPpuRegister a = false) → t.ppu = s.ppu) ∧ t.ppu.fb = s.ppu.fb ∧
    t.cartRamPresent = s.cartRamPresent ∧
    (0xFF40 ∉ as → 0xFF45 ∉ as → 0xFF46 ∉ as → ∀ x, cellOf x ∉ as.map cellOf → cpuRead t x = cpuRead s x)

/-- A byte written to `a` now is read back from it: the bus does not refuse the CPU and `a` is no read-only, partly stored
or absent place (R61 to R82). -/
def State.storable (s : State) (a : Word) : Bool :=
  !dmaBlocks s a &&
    match regionOf a with
    | .rom => false
    | .vram => !s.ppu.vramLocked
    | .cartRam => s.cartRamPresent
    | .wram => true
    | .echo => true
    | .oam => !s.ppu.oamLocked
    | .unusable => false
    | .io => ioRegOf a != .ifr && ioRegOf a != .stat && ioRegOf a != .ly
    | .hram => true
    | .ie => true

/-- An address of work RAM, its echo or high RAM that the bus does not refuse: a cell that no register and no lock
touches (R73, R74, R82, R64). -/
def State.plain (s : State) (a : Word) : Bool :=
  !dmaBlocks s a && (regionOf a == .wram || regionOf a == .echo || regionOf a == .hram)

/-- `i` stores `v` at `a`, through the bus, and then changes registers as `after` says: the next state, its frame,
and what the CPU reads back. -/
def StoresByte (i : Instr) (s : State) (a : Word) (v : Byte) (after : State → State) : Prop :=
  ∃ t, exec i s = .next t ∧ t = after (cpuWrite s a v) ∧ KeepsCpu s (cpuWrite s a v) ∧ StoreFrame [a] s t ∧
    (s.mem.wf → s.storable a = true → cpuRead t a = v)

/-- `i` stores `v1` at `a1` and then `v2` at `a2`, through the bus, and then changes registers as `after` says. -/
def StoresTwo (i : Instr) (s : State) (a1 : Word) (v1 : Byte) (a2 : Word) (v2 : Byte) (after : State → State) : Prop :=
  ∃ t, exec i s = .next t ∧ t = after (cpuWrite (cpuWrite s a1 v1) a2 v2) ∧
    KeepsCpu s (cpuWrite (cpuWrite s a1 v1) a2 v2) ∧ StoreFrame [a1, a2] s t ∧
    (s.mem.wf → s.plain a1 = true → s.plain a2 = true → cellOf a1 ≠ cellOf a2 → cpuRead t a1 = v1 ∧ cpuRead t a2 = v2)

/-- `i` completes in `n` cycles and writes the register `r` with `v`, and nothing else. -/
def WritesR8 (i : Instr) (s : State) (r : R8) (v : Byte) (n : Nat) : Prop :=
  ∃ t, exec i s = .next t ∧ t.r8 r = v ∧ (∀ q, q ≠ r → t.r8 q = s.r8 q) ∧ ReadsSame s t ∧
    t = { s with a := t.a, b := t.b, c := t.c, d := t.d, e := t.e, h := t.h, l := t.l, cycles := n }

/-- `i` completes in `n` cycles and writes the register `r` with `v` and the four flags, and nothing else. -/
def WritesR8Flags (i : Instr) (s : State) (r : R8) (v : Byte) (z n h c : Bool) (cycles : Nat) : Prop :=
  ∃ t, exec i s = .next t ∧ t.r8 r = v ∧ (∀ q, q ≠ r → t.r8 q = s.r8 q) ∧ FlagsAre t z n h c ∧ ReadsSame s t ∧
    t = { s with
      a := t.a, f := t.f, b := t.b, c := t.c, d := t.d, e := t.e, h := t.h, l := t.l, cycles := cycles }

/-- `i` completes in `n` cycles and writes the pair `p` with `v`, and nothing else. -/
def WritesR16 (i : Instr) (s : State) (p : R16) (v : Word) (n : Nat) : Prop :=
  ∃ t, exec i s = .next t ∧ t.r16 p = v ∧ (∀ q, q ≠ p → t.r16 q = s.r16 q) ∧ ReadsSame s t ∧
    t = { s with b := t.b, c := t.c, d := t.d, e := t.e, h := t.h, l := t.l, sp := t.sp, cycles := n }

/-- `i` completes in `n` cycles and writes the four flags, and nothing else. -/
def WritesFlags (i : Instr) (s : State) (z n h c : Bool) (cycles : Nat) : Prop :=
  ∃ t, exec i s = .next t ∧ FlagsAre t z n h c ∧ ReadsSame s t ∧ t = { s with f := t.f, cycles := cycles }

/-- `i` completes in `n` cycles, moves `PC` to `target`, and changes nothing else. -/
def JumpsTo (i : Instr) (s : State) (target : Word) (n : Nat) : Prop :=
  ∃ t, exec i s = .next t ∧ ReadsSame s t ∧ t = { s with pc := target, cycles := n }

/-- `i` pushes `PC` and moves it to `target`, in `n` cycles (R166). -/
def CallsTo (i : Instr) (s : State) (target : Word) (n : Nat) : Prop :=
  StoresTwo i s (s.sp - 1) (highByte s.pc) (s.sp - 2) (lowByte s.pc)
    (fun u => { u with sp := s.sp - 2, pc := target, cycles := n })

/-! ## Operand forms -/

/-- The three forms of the second operand of 8-bit arithmetic (R178). -/
inductive AluSrc where
  | reg (r : R8)
  | mem
  | imm (n : Byte)
  deriving DecidableEq, Repr

/-- The instruction of an operation and a form (R178). -/
def AluSrc.instr (op : AluOp) : AluSrc → Instr
  | .reg r => Instr.aluReg op r
  | .mem => Instr.aluMem op
  | .imm n => Instr.aluImm op n

/-- The operand `x` of a form (R178). -/
def AluSrc.value (s : State) : AluSrc → Byte
  | .reg r => s.r8 r
  | .mem => cpuRead s s.hl
  | .imm n => n

/-- The cycles of a form (R178). -/
def AluSrc.cycles : AluSrc → Nat
  | .reg _ => 4
  | .mem => 8
  | .imm _ => 8

/-- An opcode byte from its number. -/
def opcode (n : Nat) : Byte := BitVec.ofNat 8 n

/-- The bytes of an operation and a form (R178): `10yyysss`, `10yyy110`, `11yyy110` with `n`. -/
def AluSrc.bytes (op : AluOp) : AluSrc → List Byte
  | .reg r => [opcode (0x80 + 8 * op.code + r.code)]
  | .mem => [opcode (0x80 + 8 * op.code + 6)]
  | .imm n => [opcode (0xC6 + 8 * op.code), n]

/-- The eleven opcode bytes that select no instruction (R115). -/
def unassignedBytes : List Byte := [0xD3, 0xDB, 0xDD, 0xE3, 0xE4, 0xEB, 0xEC, 0xED, 0xF4, 0xFC, 0xFD]

/-- The three bytes the next fetch reads (R103): after the wait quirk, the operand bytes start at the opcode's own
address (R273). -/
def fetchBytes (s : State) : List Byte :=
  if s.haltBug then [cpuRead s s.pc, cpuRead s s.pc, cpuRead s (s.pc + 1)]
  else [cpuRead s s.pc, cpuRead s (s.pc + 1), cpuRead s (s.pc + 2)]

end Sys2Proof.Machine
end

