-- ==== Sys2Proof/Certificates/Slice0/Obligations.lean ====
section
/-! DEFINITION. The statements for the provers, from the numbered rules of the spec: encoding, each family of instructions
(its bytes, its next state and its frame), the step and interrupts, the bus, the PPU, the DMA sequencer, the renderer,
construction, and the invariants. Every statement about an instruction is about `exec`, which runs with `PC` already past
the instruction's bytes; `Obligations.StepRunsDecoded` says how `step` reaches it. -/

open Sys2Proof Sys2Proof.Machine

/-! ## Encoding and decoding -/

/-- R100, R102, R111 (derived): every row of the table, with every operand at every value, is read back from its own bytes,
whatever follows them. -/
def Obligations.DecodeInvertsEncode : Prop :=
  ∀ (i : Instr) (rest : List Byte), decode (encode i ++ rest) = .ok (i, rest)

/-- R113, R114 (derived): the bytes of what the decoder reads are the bytes it was given, up to the length of the
instruction: no bit is dropped, and an unassigned byte is not read as a neighbour. -/
def Obligations.EncodeInvertsDecode : Prop :=
  ∀ b0 n1 n2 : Byte, encode (decodeBytes b0 n1 n2) = [b0, n1, n2].take (lengthOf b0)

/-- R116: the length of every defined opcode is a function of the first byte, by the fields `x`, `y`, `z`, `q` of R101. -/
def Obligations.LengthFromFirstByte : Prop :=
  ∀ b0 n1 n2 : Byte, b0 ∉ unassignedBytes →
    let x := b0.toNat / 64
    let y := b0.toNat / 8 % 8
    let z := b0.toNat % 8
    let q := y % 2
    (decodeBytes b0 n1 n2).length =
      if (x = 0 ∧ z = 1 ∧ q = 0) ∨ b0 = 0x08 ∨ (x = 3 ∧ z = 2 ∧ (y < 4 ∨ y = 5 ∨ y = 7)) ∨ b0 = 0xC3 ∨
          (x = 3 ∧ z = 4 ∧ y < 4) ∨ b0 = 0xCD then 3
      else if (x = 0 ∧ z = 0 ∧ 2 ≤ y) ∨ (x = 0 ∧ z = 6) ∨ (x = 3 ∧ z = 6) ∨
          b0 ∈ [0xE0, 0xE8, 0xF0, 0xF8] ∨ b0 = 0xCB then 2
      else 1

/-- R113, R114 (derived): words written out bit by bit from the opcode maps decode to the instructions they stand for, and
R117: the byte after the prefix is always an opcode of the prefixed map. -/
def Obligations.SampleWordsDecode : Prop :=
  decode [0b01111000] = .ok (Instr.ldAB, []) ∧
    decode [0b00110110, 0xAB] = .ok (Instr.ldMHlN 0xAB, []) ∧
    decode [0b00100001, 0x00, 0xC0] = .ok (Instr.ldHlNn 0xC000, []) ∧
    decode [0b11110101] = .ok (Instr.pushAf, []) ∧
    decode [0b10011100] = .ok (Instr.sbcAH, []) ∧
    decode [0b11111110, 0x3C] = .ok (Instr.cpN 0x3C, []) ∧
    decode [0b00111001] = .ok (Instr.addHlSp, []) ∧
    decode [0b11001011, 0b00110111] = .ok (Instr.swapA, []) ∧
    decode [0b11001011, 0b11001011] = .ok (Instr.set1E, []) ∧
    decode [0b01110110] = .ok (Instr.halt, []) ∧
    decode [0b00100000, 0xFC] = .ok (Instr.jrNzE 0xFC, []) ∧
    decode [0b11011100, 0x00, 0x20] = .ok (Instr.callCNn 0x2000, []) ∧
    decode [0b11101111] = .ok (Instr.rst28, []) ∧
    decode [0b11011101] = .ok (Instr.illegalDD, []) ∧
    decode [0b11001101, 0x00] = .error (.truncated 0xCD)

/-! ## 8-bit loads and stores -/

/-- R130, R131, R132: `LD r,r'`, `LD r,n`, `LD r,(HL)`: the bytes, the register written, and nothing else; and which register
each name of R104 reads. -/
def Obligations.LoadRegister : Prop :=
  ∀ (s : State) (rd r : R8) (n : Byte),
    (encode (Instr.ldReg rd r) = [opcode (0x40 + 8 * rd.code + r.code)] ∧
      WritesR8 (Instr.ldReg rd r) s rd (s.r8 r) 4) ∧
    (encode (Instr.ldImm rd n) = [opcode (0x06 + 8 * rd.code), n] ∧ WritesR8 (Instr.ldImm rd n) s rd n 8) ∧
    (encode (Instr.ldFromHl rd) = [opcode (0x46 + 8 * rd.code)] ∧
      WritesR8 (Instr.ldFromHl rd) s rd (cpuRead s s.hl) 8) ∧
    s.r8 r =
      (match r with
        | .b => s.b
        | .c => s.c
        | .d => s.d
        | .e => s.e
        | .h => s.h
        | .l => s.l
        | .a => s.a)

/-- R133, R134, R137, R138, R140, R146, R148: the stores of one byte: a register or `n` to `HL`; `A` to `BC`, `DE`, `nn`,
`0xFF00 + n`, `0xFF00 + C`. -/
def Obligations.StoreOneByte : Prop :=
  ∀ (s : State) (r : R8) (n : Byte) (nn : Word),
    (encode (Instr.ldToHl r) = [opcode (0x70 + r.code)] ∧
      StoresByte (Instr.ldToHl r) s s.hl (s.r8 r) (fun u => { u with cycles := 8 })) ∧
    (encode (Instr.ldMHlN n) = [0x36, n] ∧ StoresByte (Instr.ldMHlN n) s s.hl n (fun u => { u with cycles := 12 })) ∧
    (encode .ldMBcA = [0x02] ∧ StoresByte .ldMBcA s s.bc s.a (fun u => { u with cycles := 8 })) ∧
    (encode .ldMDeA = [0x12] ∧ StoresByte .ldMDeA s s.de s.a (fun u => { u with cycles := 8 })) ∧
    (encode (.ldMNnA nn) = [0xEA, lowByte nn, highByte nn] ∧
      StoresByte (.ldMNnA nn) s nn s.a (fun u => { u with cycles := 16 })) ∧
    (encode (.ldhMNA n) = [0xE0, n] ∧
      StoresByte (.ldhMNA n) s (0xFF00 + n.setWidth 16) s.a (fun u => { u with cycles := 12 })) ∧
    (encode .ldhMCA = [0xE2] ∧
      StoresByte .ldhMCA s (0xFF00 + s.c.setWidth 16) s.a (fun u => { u with cycles := 8 }))

/-- R135, R136, R139, R147, R149: `A` is loaded from `BC`, `DE`, `nn`, `0xFF00 + n`, `0xFF00 + C`. -/
def Obligations.LoadAccumulator : Prop :=
  ∀ (s : State) (n : Byte) (nn : Word),
    (encode .ldAMBc = [0x0A] ∧ WritesR8 .ldAMBc s .a (cpuRead s s.bc) 8) ∧
    (encode .ldAMDe = [0x1A] ∧ WritesR8 .ldAMDe s .a (cpuRead s s.de) 8) ∧
    (encode (.ldAMNn nn) = [0xFA, lowByte nn, highByte nn] ∧ WritesR8 (.ldAMNn nn) s .a (cpuRead s nn) 16) ∧
    (encode (.ldhAMN n) = [0xF0, n] ∧ WritesR8 (.ldhAMN n) s .a (cpuRead s (0xFF00 + n.setWidth 16)) 12) ∧
    (encode .ldhAMC = [0xF2] ∧ WritesR8 .ldhAMC s .a (cpuRead s (0xFF00 + s.c.setWidth 16)) 8)

/-- R141 to R144: `A` goes to or comes from `(HL)`, and `HL` moves by one afterwards, wrapping, whether or not the bus
accepts a store. -/
def Obligations.AccumulatorThroughMovingHl : Prop :=
  ∀ s : State,
    (encode .ldMHliA = [0x22] ∧
      StoresByte .ldMHliA s s.hl s.a
        (fun u => { u with h := highByte (s.hl + 1), l := lowByte (s.hl + 1), cycles := 8 })) ∧
    (encode .ldMHldA = [0x32] ∧
      StoresByte .ldMHldA s s.hl s.a
        (fun u => { u with h := highByte (s.hl - 1), l := lowByte (s.hl - 1), cycles := 8 })) ∧
    (encode .ldAMHli = [0x2A] ∧
      ∃ t, exec .ldAMHli s = .next t ∧ ReadsSame s t ∧
        t = { s with a := cpuRead s s.hl, h := highByte (s.hl + 1), l := lowByte (s.hl + 1), cycles := 8 }) ∧
    (encode .ldAMHld = [0x3A] ∧
      ∃ t, exec .ldAMHld s = .next t ∧ ReadsSame s t ∧
        t = { s with a := cpuRead s s.hl, h := highByte (s.hl - 1), l := lowByte (s.hl - 1), cycles := 8 })

/-! ## 16-bit loads and the stack -/

/-- R160, R162, R22, R23: `LD rr,nn` and `LD SP,HL`: the pair written and nothing else, its high half with bits 15:8 and
its low half with bits 7:0; a pair is no storage of its own but the word of its two registers, the first-named the high half;
a write of a pair writes both halves, and a write of `AF` masks `F`. -/
def Obligations.LoadPair : Prop :=
  ∀ (s : State) (p : R16) (q : R16Stk) (nn : Word),
    (encode (Instr.ldPair p nn) = [opcode (0x01 + 16 * p.code), lowByte nn, highByte nn] ∧
      WritesR16 (Instr.ldPair p nn) s p nn 12 ∧
      exec (Instr.ldPair p nn) s =
        .next (match p with
          | .bc => { s with b := highByte nn, c := lowByte nn, cycles := 12 }
          | .de => { s with d := highByte nn, e := lowByte nn, cycles := 12 }
          | .hl => { s with h := highByte nn, l := lowByte nn, cycles := 12 }
          | .sp => { s with sp := nn, cycles := 12 })) ∧
    (encode .ldSpHl = [0xF9] ∧ WritesR16 .ldSpHl s .sp s.hl 8 ∧
      ∃ t, exec .ldSpHl s = .next t ∧ t.sp.toNat = 256 * s.h.toNat + s.l.toNat) ∧
    ((highByte nn).toNat = nn.toNat / 256 ∧ (lowByte nn).toNat = nn.toNat % 256) ∧
    (s.r16 p).toNat =
      (match p with
        | .bc => 256 * s.b.toNat + s.c.toNat
        | .de => 256 * s.d.toNat + s.e.toNat
        | .hl => 256 * s.h.toNat + s.l.toNat
        | .sp => s.sp.toNat) ∧
    (s.r16stk q).toNat =
      (match q with
        | .bc => 256 * s.b.toNat + s.c.toNat
        | .de => 256 * s.d.toNat + s.e.toNat
        | .hl => 256 * s.h.toNat + s.l.toNat
        | .af => 256 * s.a.toNat + s.f.toNat) ∧
    s.setR16stk q nn =
      (match q with
        | .bc => { s with b := highByte nn, c := lowByte nn }
        | .de => { s with d := highByte nn, e := lowByte nn }
        | .hl => { s with h := highByte nn, l := lowByte nn }
        | .af => { s with a := highByte nn, f := lowByte nn &&& 0xF0 })

/-- R161: `LD (nn),SP`: the low byte at `nn`, then the high byte at `nn + 1`. -/
def Obligations.StoreStackPointer : Prop :=
  ∀ (s : State) (nn : Word),
    encode (.ldMNnSp nn) = [0x08, lowByte nn, highByte nn] ∧
      StoresTwo (.ldMNnSp nn) s nn (lowByte s.sp) (nn + 1) (highByte s.sp) (fun u => { u with cycles := 20 })

/-- R163, R218, R219: `LD HL,SP+e` and `ADD SP,e`: a signed sum, with the flags of the unsigned sum of the low bytes. -/
def Obligations.StackPointerPlusDisplacement : Prop :=
  ∀ (s : State) (e : Byte),
    let r := BitVec.ofInt 16 (s.sp.toNat + e.toInt)
    let hf := decide (0x0F < s.sp.toNat % 16 + e.toNat % 16)
    let cf := decide (0xFF < s.sp.toNat % 256 + e.toNat)
    (encode (.ldHlSpE e) = [0xF8, e] ∧
      ∃ t, exec (.ldHlSpE e) s = .next t ∧ FlagsAre t false false hf cf ∧ ReadsSame s t ∧
        t = { s with h := highByte r, l := lowByte r, f := t.f, cycles := 12 }) ∧
    (encode (.addSpE e) = [0xE8, e] ∧
      ∃ t, exec (.addSpE e) s = .next t ∧ FlagsAre t false false hf cf ∧ ReadsSame s t ∧
        t = { s with sp := r, f := t.f, cycles := 16 })

/-- R164, R166: `PUSH rr`: the high byte at `SP - 1`, then the low byte at `SP - 2`, where `SP` ends, whether or not the
bus accepts them. -/
def Obligations.PushStoresPair : Prop :=
  ∀ (s : State) (p : R16Stk),
    encode (Instr.push p) = [opcode (0xC5 + 16 * p.code)] ∧
      StoresTwo (Instr.push p) s (s.sp - 1) (highByte (s.r16stk p)) (s.sp - 2) (lowByte (s.r16stk p))
        (fun u => { u with sp := s.sp - 2, cycles := 16 })

/-- R165, R167: `POP rr`: the pair from `SP` (low) and `SP + 1` (high), `SP` two higher; `POP AF` drops the low nibble of
`F`; every other pair is unchanged. -/
def Obligations.PopReadsPair : Prop :=
  ∀ (s : State) (p : R16Stk),
    let v := wordOf (cpuRead s (s.sp + 1)) (cpuRead s s.sp)
    encode (Instr.pop p) = [opcode (0xC1 + 16 * p.code)] ∧
      ∃ t, exec (Instr.pop p) s = .next t ∧ t.r16stk p = (if p = .af then v &&& 0xFFF0 else v) ∧
        (∀ q, q ≠ p → t.r16stk q = s.r16stk q) ∧ ReadsSame s t ∧
        t = { s with
          a := t.a, f := t.f, b := t.b, c := t.c, d := t.d, e := t.e, h := t.h, l := t.l, sp := s.sp + 2, cycles := 12 }

/-- R166, R167 (derived): what is pushed to plain memory is popped, and `SP` is back where it was. -/
def Obligations.PopReturnsWhatPushStored : Prop :=
  ∀ (s : State) (v : Word), s.mem.wf → s.plain (s.sp - 1) = true → s.plain (s.sp - 2) = true →
    popWord (push16 s v) = v ∧ (popped (push16 s v)).sp = s.sp

/-! ## 8-bit arithmetic and logic -/

/-- R176, R180 to R185: `ADD A,x` and `ADC A,x` in their three forms. -/
def Obligations.AddAndAddWithCarry : Prop :=
  ∀ (s : State) (x : AluSrc) (op : AluOp) (cin : Bool),
    (op = .add ∧ cin = false) ∨ (op = .adc ∧ cin = s.fC) →
    encode (x.instr op) = x.bytes op ∧
      WritesR8Flags (x.instr op) s .a (BitVec.ofNat 8 (s.a.toNat + (x.value s).toNat + cin.toNat))
        (decide ((s.a.toNat + (x.value s).toNat + cin.toNat) % 256 = 0)) false
        (decide (0x0F < s.a.toNat % 16 + (x.value s).toNat % 16 + cin.toNat))
        (decide (0xFF < s.a.toNat + (x.value s).toNat + cin.toNat)) x.cycles

/-- R177, R186 to R191: `SUB x` and `SBC A,x` in their three forms; half-carry and carry are borrows. -/
def Obligations.SubAndSubWithCarry : Prop :=
  ∀ (s : State) (x : AluSrc) (op : AluOp) (cin : Bool),
    (op = .sub ∧ cin = false) ∨ (op = .sbc ∧ cin = s.fC) →
    encode (x.instr op) = x.bytes op ∧
      WritesR8Flags (x.instr op) s .a (s.a - x.value s - BitVec.ofNat 8 cin.toNat)
        (decide (s.a = x.value s + BitVec.ofNat 8 cin.toNat)) true
        (decide (s.a.toNat % 16 < (x.value s).toNat % 16 + cin.toNat))
        (decide (s.a.toNat < (x.value s).toNat + cin.toNat)) x.cycles

/-- R201, R202, R203: `CP x` in its three forms: the flags of a subtraction, and `A` unchanged. -/
def Obligations.Compare : Prop :=
  ∀ (s : State) (x : AluSrc),
    encode (x.instr .cp) = x.bytes .cp ∧
      WritesFlags (x.instr .cp) s (decide (s.a = x.value s)) true
        (decide (s.a.toNat % 16 < (x.value s).toNat % 16)) (decide (s.a.toNat < (x.value s).toNat)) x.cycles

/-- R192 to R200: `AND x`, `XOR x`, `OR x` in their three forms; the half-carry is 1 after `AND`. -/
def Obligations.Logic : Prop :=
  ∀ (s : State) (x : AluSrc),
    (encode (x.instr .and) = x.bytes .and ∧
      WritesR8Flags (x.instr .and) s .a (s.a &&& x.value s) (decide (s.a &&& x.value s = 0)) false true false x.cycles) ∧
    (encode (x.instr .xor) = x.bytes .xor ∧
      WritesR8Flags (x.instr .xor) s .a (s.a ^^^ x.value s) (decide (s.a ^^^ x.value s = 0)) false false false
        x.cycles) ∧
    (encode (x.instr .or) = x.bytes .or ∧
      WritesR8Flags (x.instr .or) s .a (s.a ||| x.value s) (decide (s.a ||| x.value s = 0)) false false false x.cycles)

/-- R204 to R207: `INC` and `DEC` of a register and of `(HL)` (one read, then one write): the carry stays. And where R27 puts
the four flags in `F`, as every statement about flags reads and writes them. -/
def Obligations.IncrementDecrementByte : Prop :=
  ∀ (s : State) (r : R8),
    let v := cpuRead s s.hl
    (encode (Instr.incReg r) = [opcode (0x04 + 8 * r.code)] ∧
      WritesR8Flags (Instr.incReg r) s r (s.r8 r + 1) (decide (s.r8 r = 0xFF)) false
        (decide ((s.r8 r).toNat % 16 = 15)) s.fC 4) ∧
    (encode .incMHl = [0x34] ∧
      StoresByte .incMHl s s.hl (v + 1)
        (fun u => { u with f := flagByte (v == 0xFF) false (v.toNat % 16 == 15) s.fC, cycles := 12 })) ∧
    (encode (Instr.decReg r) = [opcode (0x05 + 8 * r.code)] ∧
      WritesR8Flags (Instr.decReg r) s r (s.r8 r - 1) (decide (s.r8 r = 0x01)) true
        (decide ((s.r8 r).toNat % 16 = 0)) s.fC 4) ∧
    (encode .decMHl = [0x35] ∧
      StoresByte .decMHl s s.hl (v - 1)
        (fun u => { u with f := flagByte (v == 0x01) true (v.toNat % 16 == 0) s.fC, cycles := 12 })) ∧
    (s.fZ = s.f.getLsbD 7 ∧ s.fN = s.f.getLsbD 6 ∧ s.fH = s.f.getLsbD 5 ∧ s.fC = s.f.getLsbD 4) ∧
    ∀ z n h c : Bool, (flagByte z n h c).toNat = 128 * z.toNat + 64 * n.toNat + 32 * h.toNat + 16 * c.toNat

/-- R208: `DAA`: both tests use the `A` before the adjustment. -/
def Obligations.DecimalAdjust : Prop :=
  ∀ s : State,
    let low : Nat := if s.fH = true ∨ (s.fN = false ∧ 9 < s.a.toNat % 16) then 0x06 else 0
    let upper : Bool := decide (s.fC = true ∨ (s.fN = false ∧ 0x99 < s.a.toNat))
    let corr : Nat := low + if upper then 0x60 else 0
    let r : Byte := if s.fN then s.a - BitVec.ofNat 8 corr else s.a + BitVec.ofNat 8 corr
    encode .daa = [0x27] ∧ WritesR8Flags .daa s .a r (decide (r = 0)) s.fN false upper 4

/-- R209, R210, R211: `CPL`, `SCF`, `CCF`. -/
def Obligations.ComplementAndCarryFlag : Prop :=
  ∀ s : State,
    (encode .cpl = [0x2F] ∧ WritesR8Flags .cpl s .a (~~~s.a) s.fZ true true s.fC 4) ∧
    (encode .scf = [0x37] ∧ WritesFlags .scf s s.fZ false false true 4) ∧
    (encode .ccf = [0x3F] ∧ WritesFlags .ccf s s.fZ false false (!s.fC) 4)

/-! ## 16-bit arithmetic -/

/-- R215, R216, R217: `ADD HL,rr` (carries out of bits 11 and 15; `Z` stays), `INC rr` and `DEC rr` (the pair wraps and no
flag is written). -/
def Obligations.PairArithmetic : Prop :=
  ∀ (s : State) (p : R16),
    let a := s.hl.toNat
    let b := (s.r16 p).toNat
    (encode (Instr.addHl p) = [opcode (0x09 + 16 * p.code)] ∧
      ∃ t, exec (Instr.addHl p) s = .next t ∧ t.hl.toNat = (a + b) % 65536 ∧
        FlagsAre t s.fZ false (decide (0x0FFF < a % 4096 + b % 4096)) (decide (0xFFFF < a + b)) ∧ ReadsSame s t ∧
        t = { s with h := t.h, l := t.l, f := t.f, cycles := 8 }) ∧
    (encode (Instr.incPair p) = [opcode (0x03 + 16 * p.code)] ∧
      WritesR16 (Instr.incPair p) s p (BitVec.ofNat 16 (b + 1)) 8) ∧
    (encode (Instr.decPair p) = [opcode (0x0B + 16 * p.code)] ∧
      WritesR16 (Instr.decPair p) s p (BitVec.ofNat 16 (b + 0xFFFF)) 8)

/-! ## Rotates, shifts and bits -/

/-- R220 to R223: the four accumulator rotates: `Z` is 0 whatever the result. -/
def Obligations.RotateAccumulator : Prop :=
  ∀ s : State,
    let a := s.a
    let cin : Byte := if s.fC then 1 else 0
    (encode .rlca = [0x07] ∧ WritesR8Flags .rlca s .a (a <<< 1 ||| a >>> 7) false false false (a.getLsbD 7) 4) ∧
    (encode .rrca = [0x0F] ∧ WritesR8Flags .rrca s .a (a >>> 1 ||| a <<< 7) false false false (a.getLsbD 0) 4) ∧
    (encode .rla = [0x17] ∧ WritesR8Flags .rla s .a (a <<< 1 ||| cin) false false false (a.getLsbD 7) 4) ∧
    (encode .rra = [0x1F] ∧ WritesR8Flags .rra s .a (a >>> 1 ||| cin <<< 7) false false false (a.getLsbD 0) 4)

/-- R224 to R231, R238: the eight prefixed rotates and shifts, of a register and of `(HL)` (one read, then one write to the
same address): the result, the bit shifted out, and the bytes. -/
def Obligations.RotatesAndShifts : Prop :=
  ∀ (s : State) (r : R8) (op : ShiftOp),
    let cin : Byte := if s.fC then 1 else 0
    let res (v : Byte) : Byte :=
      match op with
      | .rlc => v <<< 1 ||| v >>> 7
      | .rrc => v >>> 1 ||| v <<< 7
      | .rl => v <<< 1 ||| cin
      | .rr => v >>> 1 ||| cin <<< 7
      | .sla => v <<< 1
      | .sra => v >>> 1 ||| (v &&& 0x80)
      | .swap => v <<< 4 ||| v >>> 4
      | .srl => v >>> 1
    let out (v : Byte) : Bool :=
      match op with
      | .rlc | .rl | .sla => v.getLsbD 7
      | .rrc | .rr | .sra | .srl => v.getLsbD 0
      | .swap => false
    let x := s.r8 r
    let m := cpuRead s s.hl
    (encode (Instr.shiftReg op r) = [0xCB, opcode (8 * op.code + r.code)] ∧
      WritesR8Flags (Instr.shiftReg op r) s r (res x) (decide (res x = 0)) false false (out x) 8) ∧
    (encode (Instr.shiftMem op) = [0xCB, opcode (8 * op.code + 6)] ∧
      StoresByte (Instr.shiftMem op) s s.hl (res m)
        (fun u => { u with f := flagByte (decide (res m = 0)) false false (out m), cycles := 16 }))

/-- R232 to R237: `BIT` (`Z` is the complement of the bit, the carry stays, nothing else is written), `RES` and `SET`
(exactly the bit `b` becomes 0 or 1, and no flag is written), of a register and of `(HL)`. -/
def Obligations.TestResetAndSetBit : Prop :=
  ∀ (s : State) (b : Oct) (r : R8),
    let bit : Byte := BitVec.ofNat 8 (2 ^ b.toNat)
    let m := cpuRead s s.hl
    (encode (Instr.bitReg b r) = [0xCB, opcode (0x40 + 8 * b.toNat + r.code)] ∧
      WritesFlags (Instr.bitReg b r) s (!(s.r8 r).getLsbD b.toNat) false true s.fC 8) ∧
    (encode (Instr.bitMem b) = [0xCB, opcode (0x46 + 8 * b.toNat)] ∧
      WritesFlags (Instr.bitMem b) s (!m.getLsbD b.toNat) false true s.fC 12) ∧
    (encode (Instr.resReg b r) = [0xCB, opcode (0x80 + 8 * b.toNat + r.code)] ∧
      WritesR8 (Instr.resReg b r) s r (s.r8 r &&& (0xFF - bit)) 8) ∧
    (encode (Instr.resMem b) = [0xCB, opcode (0x86 + 8 * b.toNat)] ∧
      StoresByte (Instr.resMem b) s s.hl (m &&& (0xFF - bit)) (fun u => { u with cycles := 16 })) ∧
    (encode (Instr.setReg b r) = [0xCB, opcode (0xC0 + 8 * b.toNat + r.code)] ∧
      WritesR8 (Instr.setReg b r) s r (s.r8 r ||| bit) 8) ∧
    (encode (Instr.setMem b) = [0xCB, opcode (0xC6 + 8 * b.toNat)] ∧
      StoresByte (Instr.setMem b) s s.hl (m ||| bit) (fun u => { u with cycles := 16 }))

/-! ## Control transfer -/

/-- R250 to R254, with R107's conditions: the jumps. `s.pc` is the address after the instruction. -/
def Obligations.Jumps : Prop :=
  ∀ (s : State) (cc : Cond) (nn : Word) (e : Byte),
    let taken : Bool :=
      match cc with
      | .nz => !s.f.getLsbD 7
      | .z => s.f.getLsbD 7
      | .nc => !s.f.getLsbD 4
      | .c => s.f.getLsbD 4
    let target := BitVec.ofInt 16 (s.pc.toNat + e.toInt)
    (encode (.jpNn nn) = [0xC3, lowByte nn, highByte nn] ∧ JumpsTo (.jpNn nn) s nn 16) ∧
    (encode (Instr.jpIf cc nn) = [opcode (0xC2 + 8 * cc.code), lowByte nn, highByte nn] ∧
      (taken = true → JumpsTo (Instr.jpIf cc nn) s nn 16) ∧
      (taken = false → JumpsTo (Instr.jpIf cc nn) s s.pc 12)) ∧
    (encode .jpHl = [0xE9] ∧ JumpsTo .jpHl s s.hl 4) ∧
    (encode (.jrE e) = [0x18, e] ∧ JumpsTo (.jrE e) s target 12) ∧
    (encode (Instr.jrIf cc e) = [opcode (0x20 + 8 * cc.code), e] ∧
      (taken = true → JumpsTo (Instr.jrIf cc e) s target 12) ∧
      (taken = false → JumpsTo (Instr.jrIf cc e) s s.pc 8))

/-- R255, R256, R260: `CALL nn`, `CALL cc,nn`, `RST t`: the address after the instruction is pushed. -/
def Obligations.CallsAndRestarts : Prop :=
  ∀ (s : State) (cc : Cond) (nn : Word) (t : Oct),
    let taken : Bool :=
      match cc with
      | .nz => !s.f.getLsbD 7
      | .z => s.f.getLsbD 7
      | .nc => !s.f.getLsbD 4
      | .c => s.f.getLsbD 4
    (encode (.callNn nn) = [0xCD, lowByte nn, highByte nn] ∧ CallsTo (.callNn nn) s nn 24) ∧
    (encode (Instr.callIf cc nn) = [opcode (0xC4 + 8 * cc.code), lowByte nn, highByte nn] ∧
      (taken = true → CallsTo (Instr.callIf cc nn) s nn 24) ∧
      (taken = false → JumpsTo (Instr.callIf cc nn) s s.pc 12)) ∧
    (encode (Instr.rst t) = [opcode (0xC7 + 8 * t.toNat)] ∧
      CallsTo (Instr.rst t) s (BitVec.ofNat 16 (8 * t.toNat)) 16)

/-- R257, R258, R259: `RET`, `RET cc`, `RETI`: `PC` is popped; `RETI` also enables interrupts at once and restores nothing
else. -/
def Obligations.Returns : Prop :=
  ∀ (s : State) (cc : Cond),
    let taken : Bool :=
      match cc with
      | .nz => !s.f.getLsbD 7
      | .z => s.f.getLsbD 7
      | .nc => !s.f.getLsbD 4
      | .c => s.f.getLsbD 4
    let v := wordOf (cpuRead s (s.sp + 1)) (cpuRead s s.sp)
    (encode .ret = [0xC9] ∧
      ∃ t, exec .ret s = .next t ∧ ReadsSame s t ∧ t = { s with pc := v, sp := s.sp + 2, cycles := 16 }) ∧
    (encode (Instr.retIf cc) = [opcode (0xC0 + 8 * cc.code)] ∧
      (taken = true → ∃ t, exec (Instr.retIf cc) s = .next t ∧ ReadsSame s t ∧
        t = { s with pc := v, sp := s.sp + 2, cycles := 20 }) ∧
      (taken = false → JumpsTo (Instr.retIf cc) s s.pc 8)) ∧
    (encode .reti = [0xD9] ∧
      ∃ t, exec .reti s = .next t ∧ ReadsSame s t ∧
        t = { s with pc := v, sp := s.sp + 2, ime := true, imeDelay := 0, cycles := 16 })

/-! ## System instructions -/

/-- R270, R274, R275: `NOP`, `DI` (at once, and cancelling a pending enable), `EI` (a delay of two boundaries, unless one
is running or interrupts are on). -/
def Obligations.NopAndInterruptEnable : Prop :=
  ∀ s : State,
    (encode .nop = [0x00] ∧ ∃ t, exec .nop s = .next t ∧ ReadsSame s t ∧ t = { s with cycles := 4 }) ∧
    (encode .di = [0xF3] ∧
      ∃ t, exec .di s = .next t ∧ ReadsSame s t ∧ t = { s with ime := false, imeDelay := 0, cycles := 4 }) ∧
    (encode .ei = [0xFB] ∧
      ∃ t, exec .ei s = .next t ∧ ReadsSame s t ∧
        t = { s with
          imeDelay := if s.ime = false ∧ s.imeDelay = 0 then 2 else s.imeDelay
          cycles := 4 })

/-- R272, R276: `HALT` (the wait, or the quirk when interrupts are off and one is pending) and `STOP` (whatever its second
byte). -/
def Obligations.HaltAndStop : Prop :=
  ∀ (s : State) (n : Byte),
    let pending := s.ie &&& s.ifr.setWidth 8 &&& 0x1F
    (encode .halt = [0x76] ∧
      (s.ime = false ∧ pending ≠ 0 → ∃ t, exec .halt s = .next t ∧ ReadsSame s t ∧
        t = { s with haltBug := true, cycles := 4 }) ∧
      (¬ (s.ime = false ∧ pending ≠ 0) → ∃ t, exec .halt s = .next t ∧ ReadsSame s t ∧
        t = { s with runState := .halted, cycles := 4 })) ∧
    (encode (.stop n) = [0x10, n] ∧
      ∃ t, exec (.stop n) s = .next t ∧ ReadsSame s t ∧ t = { s with runState := .stopped, cycles := 4 })

/-- R120 (derived): every instruction completes, from every state, in 4 to 24 cycles, a multiple of 4. -/
def Obligations.EveryInstructionCompletes : Prop :=
  ∀ (i : Instr) (s : State), i.wf = true →
    ∃ t, exec i s = .next t ∧ t.cycles % 4 = 0 ∧ 4 ≤ t.cycles ∧ t.cycles ≤ 24

/-! ## The step and interrupts -/

/-- R103, R8 (derived): when the machine is running, no interrupt is due and the bytes the fetch reads decode to the
instruction `i`, a step is `exec` of `i` with `PC` past its bytes (one less after the wait quirk, which is consumed), from the
state after the boundary actions, and then the ticks it pays for. -/
def Obligations.StepRunsDecoded : Prop :=
  ∀ (s : State) (i : Instr) (rest : List Byte),
    (boundary s).runState = .running → interruptTaken (boundary s) = false →
    decode (fetchBytes (boundary s)) = .ok (i, rest) → i.wf = true →
    step s =
      match exec i { boundary s with
          pc := (boundary s).pc + BitVec.ofNat 16 (if s.haltBug then i.length - 1 else i.length)
          haltBug := false } with
      | .next u => .next (systemTail u)
      | .fault r => .fault r
      | .refused r => .refused r

/-- R275, R410 (derived): the boundary actions, first in every step: the delay counts down and interrupts come on when it
reaches 0; `Halted` ends when anything is pending, whatever `IME`; `Stopped` ends when the joypad request is set; nothing
else changes. -/
def Obligations.BoundaryActions : Prop :=
  ∀ s : State,
    let pending := s.ie &&& s.ifr.setWidth 8 &&& 0x1F
    boundary s =
      { s with
        imeDelay := s.imeDelay - 1
        ime := s.ime || decide (s.imeDelay = 1)
        runState :=
          match s.runState with
          | .halted => if pending ≠ 0 then .running else .halted
          | .stopped => if s.ifr.getLsbD 4 then .running else .stopped
          | r => r }

/-- R421, R410, R8 (derived): a step that waits costs 4 cycles, fetches nothing and takes no interrupt; the delayed enable
counts on and the ticks of 4 cycles run (`Obligations.TicksAfterCpuStep`). It leaves every CPU register but `IF` and every
byte outside object-attribute memory as it was. The premise rules out a sequencer whose counters are out of range, which no
run reaches (`Obligations.StepKeepsInvariant`). -/
def Obligations.WaitingStep : Prop :=
  ∀ s : State, s.dma.Inv →
    (s.runState = .halted ∧ s.ie &&& s.ifr.setWidth 8 &&& 0x1F = 0) ∨ (s.runState = .stopped ∧ s.ifr.getLsbD 4 = false) →
    ∃ t, step s = .next t ∧
      t = systemTail { s with
        imeDelay := s.imeDelay - 1
        ime := s.ime || decide (s.imeDelay = 1)
        cycles := 4 } ∧
      t = { s with
        imeDelay := s.imeDelay - 1
        ime := s.ime || decide (s.imeDelay = 1)
        ifr := t.ifr
        ppu := t.ppu
        dma := t.dma
        mem := t.mem
        extRequests := t.extRequests
        cycles := 4 } ∧
      ∀ k, ¬ (0xFE00 ≤ k ∧ k < 0xFEA0) → t.mem.read k = s.mem.read k

/-- R412, R413, R408, R414: taking an interrupt: with `n` the lowest pending source, the request, `IME`, the delay and the
wait quirk are cleared, `PC` is pushed and becomes `0x0040 + 8 * n`, 20 cycles, and nothing else of the CPU changes. -/
def Obligations.DispatchTakesLowestPending : Prop :=
  ∀ (s : State) (n : Nat),
    let t := boundary s
    let cleared := { t with ifr := t.ifr &&& ~~~(1#5 <<< n), ime := false, imeDelay := 0, haltBug := false }
    t.runState = .running → t.ime = true → n < 5 → (t.ie.getLsbD n && t.ifr.getLsbD n) = true →
    (∀ m, m < n → (t.ie.getLsbD m && t.ifr.getLsbD m) = false) →
    step s = .next (systemTail
      { cpuWrite (cpuWrite cleared (t.sp - 1) (highByte t.pc)) (t.sp - 2) (lowByte t.pc) with
        sp := t.sp - 2
        pc := BitVec.ofNat 16 (0x40 + 8 * n)
        cycles := 20 })

/-- R405, R411: the interrupt test, with the values after the countdown: a running step takes an interrupt exactly when
`IME` is 1 and `IE & IF & 0x1F` is not 0, and otherwise fetches; a request sets bits 4:0 of its mask in `IF`, clears none
and changes nothing else. -/
def Obligations.InterruptTestAndRequest : Prop :=
  (∀ s : State,
    let t := boundary s
    (interruptTaken t = true ↔ t.ime = true ∧ t.ie &&& t.ifr.setWidth 8 &&& 0x1F ≠ 0) ∧
      (t.runState = .running → interruptTaken t = true → step s = .next (systemTail (dispatch t))) ∧
      (t.runState = .running → interruptTaken t = false →
        step s =
          match exec (fetchInstr t) (fetched t) with
          | .next u => .next (systemTail u)
          | .fault r => .fault r
          | .refused r => .refused r)) ∧
    ∀ (s : State) (mask : Byte) (n : Nat), n < 5 →
      (requestInterrupts mask s).ifr.getLsbD n = (s.ifr.getLsbD n || mask.getLsbD n) ∧
        requestInterrupts mask s = { s with ifr := (requestInterrupts mask s).ifr }

/-- R115, R277, R400, R409: the eleven unassigned bytes and no other decode to a row that selects no instruction; each such
row stops the machine with its own byte and the address in `PC`, and changes nothing but `run_state`; fetching one stops it
before `PC` moves; a machine that has stopped so reports the same fault for ever and changes nothing. -/
def Obligations.IllegalOpcodeIsTerminal : Prop :=
  (∀ s : State,
      let stops (i : Instr) (op : Byte) : Prop :=
        encode i = [op] ∧ op ∈ unassignedBytes ∧ i.wf = false ∧
          exec i s = .fault (.illegalOpcode op s.pc { s with runState := .faulted op s.pc })
      stops .illegalD3 0xD3 ∧ stops .illegalDB 0xDB ∧ stops .illegalDD 0xDD ∧ stops .illegalE3 0xE3 ∧
        stops .illegalE4 0xE4 ∧ stops .illegalEB 0xEB ∧ stops .illegalEC 0xEC ∧ stops .illegalED 0xED ∧
        stops .illegalF4 0xF4 ∧ stops .illegalFC 0xFC ∧ stops .illegalFD 0xFD) ∧
    (∀ b0 n1 n2 : Byte, (decodeBytes b0 n1 n2).wf = false ↔ b0 ∈ unassignedBytes) ∧
    (∀ (s : State) (op : Byte),
      (boundary s).runState = .running → interruptTaken (boundary s) = false →
      cpuRead (boundary s) s.pc = op → op ∈ unassignedBytes →
      step s = .fault (.illegalOpcode op s.pc { boundary s with runState := .faulted op s.pc })) ∧
    ∀ (s : State) (op : Byte) (addr : Word), s.runState = .faulted op addr →
      step s = .fault (.illegalOpcode op addr s)

/-- R400, R402 (derived): nothing but an unassigned opcode byte stops the machine: every step answers a next state, or the
fault of a byte of R115 at `PC`, or the fault it stopped with before; it refuses nothing. -/
def Obligations.OnlyUnassignedBytesStop : Prop :=
  ∀ s : State,
    (∃ t, step s = .next t) ∨
      ∃ op addr final, step s = .fault (.illegalOpcode op addr final) ∧
        (s.runState = .faulted op addr ∨ (op ∈ unassignedBytes ∧ addr = s.pc ∧ cpuRead s s.pc = op))

/-! ## The bus -/

/-- R61, R70 to R76, R79, R82, with the locks of R320: what the CPU reads and writes at each address while no transfer is
active. What the registers of `0xFF00` to `0xFF7F` hold is `Obligations.RegisterReads` and `Obligations.RegisterWrites`; here,
that a write there reaches no CPU register and no pixel. -/
def Obligations.BusByAddress : Prop :=
  ∀ (s : State) (a : Word) (v : Byte),
    let n := a.toNat
    let vramLocked := s.ppu.lcdc.getLsbD 7 = true ∧ s.ppu.mode = .pixelTransfer
    let oamLocked := s.ppu.lcdc.getLsbD 7 = true ∧ (s.ppu.mode = .oamSearch ∨ s.ppu.mode = .pixelTransfer)
    let stored := { s with mem := s.mem.write n v }
    s.dma.active = false →
    if n < 0x8000 then cpuRead s a = s.mem.read n ∧ cpuWrite s a v = s
    else if n < 0xA000 then
      cpuRead s a = (if vramLocked then 0xFF else s.mem.read n) ∧ cpuWrite s a v = (if vramLocked then s else stored)
    else if n < 0xC000 then
      cpuRead s a = (if s.cartRamPresent then s.mem.read n else 0xFF) ∧
        cpuWrite s a v = (if s.cartRamPresent then stored else s)
    else if n < 0xE000 then cpuRead s a = s.mem.read n ∧ cpuWrite s a v = stored
    else if n < 0xFE00 then cpuRead s a = cpuRead s (a - 0x2000) ∧ cpuWrite s a v = cpuWrite s (a - 0x2000) v
    else if n < 0xFEA0 then
      cpuRead s a = (if oamLocked then 0xFF else s.mem.read n) ∧ cpuWrite s a v = (if oamLocked then s else stored)
    else if n < 0xFF00 then cpuRead s a = 0x00 ∧ cpuWrite s a v = s
    else if n < 0xFF80 then KeepsCpu s (cpuWrite s a v) ∧ (cpuWrite s a v).ppu.fb = s.ppu.fb
    else if n < 0xFFFF then cpuRead s a = s.mem.read n ∧ cpuWrite s a v = stored
    else cpuRead s a = s.ie ∧ cpuWrite s a v = { s with ie := v }

/-- R64 (derived): while a transfer is active, the CPU reads `0xFF` below `0xFF00` and its writes there change nothing; from
`0xFF00` up it reads what it would read without the transfer, and its writes have their effect. -/
def Obligations.TransferBlocksTheCpu : Prop :=
  ∀ (s : State) (a : Word) (v : Byte), s.dma.active = true →
    if a.toNat < 0xFF00 then cpuRead s a = 0xFF ∧ cpuWrite s a v = s
    else
      cpuRead s a = cpuRead { s with dma := { s.dma with active := false } } a ∧
        (a ≠ 0xFF46 →
          cpuWrite s a v =
            { cpuWrite { s with dma := { s.dma with active := false } } a v with dma := s.dma }) ∧
        (a = 0xFF46 → cpuWrite s a v = { s with dma := { active := true, src := v, offset := 0, sub := 0 } })

/-- R78, R80, R81, R83, R300 to R303, R305 to R308, R383: what each register of R77 reads as, transfer or not; an
unassigned address reads its cell. -/
def Obligations.RegisterReads : Prop :=
  ∀ s : State,
    let p := s.ppu
    cpuRead s 0xFF0F = 0xE0 ||| s.ifr.setWidth 8 ∧
      cpuRead s 0xFF40 = p.lcdc ∧
      cpuRead s 0xFF41 =
        0x80 ||| p.statEn.setWidth 8 <<< 3 ||| (if p.ly = p.lyc.toNat then 0x04 else 0x00) |||
          (match p.mode with
            | .hblank => 0
            | .vblank => 1
            | .oamSearch => 2
            | .pixelTransfer => 3) ∧
      cpuRead s 0xFF42 = p.scy ∧ cpuRead s 0xFF43 = p.scx ∧ cpuRead s 0xFF44 = BitVec.ofNat 8 p.ly ∧
      cpuRead s 0xFF45 = p.lyc ∧ cpuRead s 0xFF46 = s.dma.src ∧ cpuRead s 0xFF47 = p.bgp ∧
      cpuRead s 0xFF48 = p.obp0 ∧ cpuRead s 0xFF49 = p.obp1 ∧ cpuRead s 0xFF4A = p.wy ∧ cpuRead s 0xFF4B = p.wx ∧
      ∀ a : Word, 0xFF00 ≤ a.toNat → a.toNat < 0xFF80 → a ≠ 0xFF0F → ¬ (0xFF40 ≤ a.toNat ∧ a.toNat ≤ 0xFF4B) →
        cpuRead s a = s.mem.read a.toNat

/-- R78, R80, R81, R301, R302, R305 to R308, R318, R382, R388: what a write of each register of R77 does, transfer or not:
`IF` keeps five bits, `STAT` bits 6:3, `LY` nothing; `DMA` starts a transfer afresh; `LCDC` bit 7 going off or on restarts
the PPU. -/
def Obligations.RegisterWrites : Prop :=
  ∀ (s : State) (v : Byte),
    let p := s.ppu
    let withPpu (q : Ppu) : State := { s with ppu := q }
    cpuWrite s 0xFF0F v = { s with ifr := v.extractLsb' 0 5 } ∧
      cpuWrite s 0xFF40 v =
        (if p.lcdc.getLsbD 7 = true ∧ v.getLsbD 7 = false then
          withPpu { p with lcdc := v, ly := 0, dot := 0, mode := .hblank, statLine := false, winLine := 0 }
        else if p.lcdc.getLsbD 7 = false ∧ v.getLsbD 7 = true then
          withPpu { p with lcdc := v, ly := 0, dot := 0, mode := .oamSearch, statLine := false, winLine := 0 }
        else withPpu { p with lcdc := v }) ∧
      cpuWrite s 0xFF41 v = withPpu { p with statEn := (v >>> 3).setWidth 4 } ∧
      cpuWrite s 0xFF42 v = withPpu { p with scy := v } ∧ cpuWrite s 0xFF43 v = withPpu { p with scx := v } ∧
      cpuWrite s 0xFF44 v = s ∧ cpuWrite s 0xFF45 v = withPpu { p with lyc := v } ∧
      cpuWrite s 0xFF46 v = { s with dma := { active := true, src := v, offset := 0, sub := 0 } } ∧
      cpuWrite s 0xFF47 v = withPpu { p with bgp := v } ∧ cpuWrite s 0xFF48 v = withPpu { p with obp0 := v } ∧
      cpuWrite s 0xFF49 v = withPpu { p with obp1 := v } ∧ cpuWrite s 0xFF4A v = withPpu { p with wy := v } ∧
      cpuWrite s 0xFF4B v = withPpu { p with wx := v } ∧
      ∀ a : Word, 0xFF00 ≤ a.toNat → a.toNat < 0xFF80 → a ≠ 0xFF0F → ¬ (0xFF40 ≤ a.toNat ∧ a.toNat ≤ 0xFF4B) →
        cpuWrite s a v = { s with mem := s.mem.write a.toNat v }

/-! ## The PPU -/

/-- R312, R313: with the LCD on, the place in the frame and the mode are a function of the accumulated dots: `n` dots on
from any place, `LY = (T div 456) mod 154` and `dot = T mod 456`, and the mode follows `ModeOf`. -/
def Obligations.ModeIsFunctionOfDots : Prop :=
  ∀ (p : Ppu) (mem : Memory) (n : Nat), p.Inv → p.lcdOn = true →
    let q := (ppuTick n p mem).1
    let total := 456 * p.ly + p.dot + n
    q.ly = total / 456 % 154 ∧ q.dot = total % 456 ∧
      q.mode =
        (if 144 ≤ q.ly then .vblank
        else if q.dot < 80 then .oamSearch
        else if q.dot < 252 then .pixelTransfer
        else .hblank)

/-- R310, R317: a tick of `m + n` dots is a tick of `m` and then one of `n`, with the OR of their masks; no dots change
nothing, and a tick of one is one dot; bits 7:2 of the mask are 0; while the LCD is off any number of dots change nothing and raise nothing, and nothing
is locked. -/
def Obligations.TickSplitsAndStops : Prop :=
  ∀ (p : Ppu) (mem : Memory) (m n : Nat),
    (ppuTick (m + n) p mem).1 = (ppuTick n (ppuTick m p mem).1 mem).1 ∧
      (ppuTick (m + n) p mem).2 = (ppuTick m p mem).2 ||| (ppuTick n (ppuTick m p mem).1 mem).2 ∧
      ppuTick 0 p mem = (p, 0) ∧ ppuTick 1 p mem = ppuDot p mem ∧ (ppuTick n p mem).2 &&& 0xFC = 0 ∧
      (p.lcdOn = false → ppuTick n p mem = (p, 0) ∧ p.vramLocked = false ∧ p.oamLocked = false)

/-- R314, R315, R316: the vertical-blank request is raised on the dot that enters line 144, whatever is enabled, and on no
other. The STAT condition is the OR of the enabled ones, each a level; a request is raised on the dot where it becomes true,
and only there; the line holds its last value. -/
def Obligations.PpuRequests : Prop :=
  ∀ (p : Ppu) (mem : Memory), p.Inv → p.lcdOn = true →
    let q := (ppuDot p mem).1
    let cond : Bool :=
      decide ((q.statEn.getLsbD 0 = true ∧ q.mode = .hblank) ∨ (q.statEn.getLsbD 1 = true ∧ q.mode = .vblank) ∨
        (q.statEn.getLsbD 2 = true ∧ q.mode = .oamSearch) ∨ (q.statEn.getLsbD 3 = true ∧ q.ly = q.lyc.toNat))
    (ppuDot p mem).2.getLsbD 0 = decide (q.ly = 144 ∧ q.dot = 0) ∧
      q.statLine = cond ∧ (ppuDot p mem).2.getLsbD 1 = (cond && !p.statLine)

/-- R350, R356: with the LCD on, a dot renders row `LY` exactly when it is dot 80 of a visible line, and no other dot changes
the framebuffer; the window's line counter goes up only there, and to 0 only at the frame's wrap. -/
def Obligations.RenderedOncePerVisibleLine : Prop :=
  ∀ (p : Ppu) (mem : Memory), p.Inv → p.lcdOn = true →
    let q := (ppuDot p mem).1
    let drawsWindow := p.lcdc.getLsbD 0 = true ∧ p.lcdc.getLsbD 5 = true ∧ p.wy.toNat ≤ p.ly ∧ p.wx.toNat ≤ 166
    if p.ly < 144 ∧ p.dot = 79 then
      q.fb = p.fb.setIfInBounds p.ly (renderRow p mem p.ly) ∧ q.winLine = (if drawsWindow then p.winLine + 1 else p.winLine)
    else q.fb = p.fb ∧ q.winLine = (if p.ly = 153 ∧ p.dot = 455 then 0 else p.winLine)

/-! ## The renderer -/

/-- R352 to R355, R361, R362, R366: each pixel of a row is its sprites over the background or window there: colour index
and shade of the scrolled background plane, or, from column `WX - 7` on lines from `WY` down, of the window plane at the
window's own row; both 0 while bit 0 of `LCDC` is 0. -/
def Obligations.RowOfALine : Prop :=
  ∀ (p : Ppu) (mem : Memory) (ly x : Nat) (hx : x < 160),
    let plane (map px py : Nat) : Nat :=
      let t := mem.read (map + 32 * (py / 8) + px / 8)
      let base :=
        if p.lcdc.getLsbD 4 then 0x8000 + 16 * t.toNat
        else if t.toNat < 128 then 0x9000 + 16 * t.toNat
        else 0x9000 + 16 * t.toNat - 4096
      let lo := mem.read (base + 2 * (py % 8))
      let hi := mem.read (base + 2 * (py % 8) + 1)
      2 * (hi.toNat / 2 ^ (7 - px % 8) % 2) + lo.toNat / 2 ^ (7 - px % 8) % 2
    let inWindow := p.lcdc.getLsbD 5 = true ∧ p.wy.toNat ≤ ly ∧ p.wx.toNat ≤ x + 7
    let ci :=
      if p.lcdc.getLsbD 0 = false then 0
      else if inWindow then plane (if p.lcdc.getLsbD 6 then 0x9C00 else 0x9800) (x + 7 - p.wx.toNat) p.winLine
      else plane (if p.lcdc.getLsbD 3 then 0x9C00 else 0x9800) ((p.scx.toNat + x) % 256) ((p.scy.toNat + ly) % 256)
    let shade := if p.lcdc.getLsbD 0 = false then 0 else p.bgp.toNat / 4 ^ ci % 4
    (renderRow p mem ly)[x] =
      spriteOver p mem ly x (BitVec.ofNat 2 ci) (BitVec.ofNat 2 shade) (selectSprites p mem ly)

/-- R357, R358: the sprites of a line are the first ten of the table that it crosses, none while sprites are off, ordered by
column with ties in table order. Entry `i` is the four bytes `oam[4i .. 4i+3]` (R363): row, column, tile, attributes. -/
def Obligations.SpritesOfALine : Prop :=
  ∀ (p : Ppu) (mem : Memory) (ly : Nat),
    let height := if p.lcdc.getLsbD 2 then 16 else 8
    let entry (i : Nat) : Sprite :=
      { y := mem.read (0xFE00 + 4 * i + 0)
        x := mem.read (0xFE00 + 4 * i + 1)
        tile := mem.read (0xFE00 + 4 * i + 2)
        attr := mem.read (0xFE00 + 4 * i + 3) }
    let crossing := ((List.range 40).map entry).filter
      (fun o => decide (o.y.toNat ≤ ly + 16 ∧ ly + 16 < o.y.toNat + height))
    let chosen := if p.lcdc.getLsbD 1 then crossing.take 10 else []
    let sel := selectSprites p mem ly
    sel.Perm chosen ∧ sel.Pairwise (fun o q => o.x.toNat ≤ q.x.toNat) ∧
      ∀ x : Byte, sel.filter (fun o => o.x == x) = chosen.filter (fun o => o.x == x)

/-- R360: only the first sprite that is not transparent at the pixel counts: it shows in its palette, unless it is behind
the background and the background's colour index is not 0; with none, the background shows. -/
def Obligations.FirstOpaqueSpriteDecides : Prop :=
  ∀ (p : Ppu) (mem : Memory) (ly x : Nat) (ci : BitVec 2) (shade : Shade) (above below : List Sprite) (o : Sprite)
      (sci : BitVec 2),
    (∀ q ∈ above, spritePixel p mem q ly x = none) →
    spriteOver p mem ly x ci shade above = shade ∧
      (spritePixel p mem o ly x = some sci →
        spriteOver p mem ly x ci shade (above ++ o :: below) =
          if o.attr.getLsbD 7 = true ∧ ci ≠ 0 then shade
          else shadeOf (if o.attr.getLsbD 4 then p.obp1 else p.obp0) sci)

/-- R359, R353, R354: the pixel of one sprite at a column: none outside its eight columns and where its colour index is 0;
flipped by its attributes; of the two tiles of 16-row mode by its row. -/
def Obligations.SpritePixelOfATile : Prop :=
  ∀ (p : Ppu) (mem : Memory) (o : Sprite) (ly x : Nat),
    let h := if p.lcdc.getLsbD 2 then 16 else 8
    let c0 : Int := (x : Int) + 8 - o.x.toNat
    let r0 := ly + 16 - o.y.toNat
    let r := if o.attr.getLsbD 6 then h - 1 - r0 else r0
    let c := if o.attr.getLsbD 5 then 7 - c0.toNat else c0.toNat
    let t := if h = 16 then o.tile.toNat / 2 * 2 + r / 8 else o.tile.toNat
    let lo := mem.read (0x8000 + 16 * t + 2 * (r % 8))
    let hi := mem.read (0x8000 + 16 * t + 2 * (r % 8) + 1)
    let ci := 2 * (hi.toNat / 2 ^ (7 - c) % 2) + lo.toNat / 2 ^ (7 - c) % 2
    o.y.toNat ≤ ly + 16 → ly + 16 < o.y.toNat + h →
    spritePixel p mem o ly x = if c0 < 0 ∨ 7 < c0 ∨ ci = 0 then none else some (BitVec.ofNat 2 ci)

/-- R364: the packed framebuffer holds pixel `p` in bits `2 (p mod 4) + 1 : 2 (p mod 4)` of byte `p div 4`, row-major, and
the accessor reads it back: the shade `fb[y][x]` of the stored row `y`. -/
def Obligations.PackedFramebuffer : Prop :=
  ∀ p : Ppu,
    (∀ k j : Nat, k < 5760 → j < 4 →
      ((p.packed k) >>> (2 * j)).setWidth 2 = p.shade ((4 * k + j) / 160) ((4 * k + j) % 160)) ∧
    ∀ (y x : Nat) (hy : y < 144) (hx : x < 160),
      p.framebufferPixel y x = (p.fb[y]'hy)[x]'hx ∧ p.shade y x = (p.fb[y]'hy)[x]'hx

/-! ## The DMA sequencer -/

/-- R382 to R387, R390, R393: a write of `v` to `0xFF46` copies 160 bytes, one every 4 cycles, whatever the PPU does: after
`n` cycles the first `n div 4` bytes stand in object-attribute memory, no other byte has changed, and the transfer is active
until 640 cycles have passed. -/
def Obligations.TransferCopiesOnePage : Prop :=
  ∀ (s : State) (v : Byte) (n : Nat), s.mem.wf →
    let t := dmaTick n (cpuWrite s 0xFF46 v)
    t.dma = (if n < 640 then { active := true, src := v, offset := n / 4, sub := n % 4 }
        else { active := false, src := v, offset := 0, sub := 0 }) ∧
      (∀ k, k < 160 →
        t.mem.read (0xFE00 + k) = if k < n / 4 then dmaRead s (256 * v.toNat + k) else s.mem.read (0xFE00 + k)) ∧
      (∀ k, ¬ (0xFE00 ≤ k ∧ k < 0xFEA0) → t.mem.read k = s.mem.read k)

/-- R386: where a transfer reads: ROM, video RAM, cartridge RAM or `0xFF`, work RAM, and for pages `0xE0` up work RAM at
the address minus `0x2000`; no lock applies. -/
def Obligations.TransferSource : Prop :=
  ∀ (s : State) (v : Byte) (k : Nat), k < 160 →
    dmaRead s (256 * v.toNat + k) =
      if 0xA0 ≤ v.toNat ∧ v.toNat < 0xC0 ∧ s.cartRamPresent = false then 0xFF
      else if 0xE0 ≤ v.toNat then s.mem.read (256 * (v.toNat - 0x20) + k)
      else s.mem.read (256 * v.toNat + k)

/-! ## Reset and construction -/

/-- R441, R442, R443, R444, R447: the state after reset, every register the spec gives a value. -/
def Obligations.ResetValues : Prop :=
  let s := State.reset
  s.a = 0x01 ∧ s.f = 0xB0 ∧ s.b = 0x00 ∧ s.c = 0x13 ∧ s.d = 0x00 ∧ s.e = 0xD8 ∧ s.h = 0x01 ∧ s.l = 0x4D ∧
    s.sp = 0xFFFE ∧ s.pc = 0x0100 ∧ s.ime = false ∧ s.imeDelay = 0 ∧ s.ie = 0x00 ∧ s.ifr = 0 ∧ s.runState = .running ∧
    s.haltBug = false ∧ s.ppu.lcdc = 0x91 ∧ s.ppu.statEn = 0 ∧ cpuRead s 0xFF41 = 0x86 ∧ cpuRead s 0xFF0F = 0xE0 ∧
    cpuRead s 0xFF46 = 0xFF ∧ s.ppu.scy = 0 ∧ s.ppu.scx = 0 ∧
    s.ppu.ly = 0 ∧ s.ppu.lyc = 0 ∧ s.ppu.bgp = 0xFC ∧ s.ppu.obp0 = 0xFF ∧ s.ppu.obp1 = 0xFF ∧ s.ppu.wy = 0 ∧
    s.ppu.wx = 0 ∧ s.ppu.dot = 0 ∧ s.ppu.mode = .oamSearch ∧ s.ppu.statLine = false ∧ s.ppu.winLine = 0 ∧
    s.dma.active = false ∧ s.dma.offset = 0 ∧ s.dma.sub = 0 ∧ s.dma.src = 0xFF ∧ ∀ y x, s.ppu.shade y x = 0

/-- R401, R440, R445 (derived): a short image makes no machine; any other makes the reset state with the image's first
`0x8000` bytes in ROM, in RAM the contents listed for it (the last listed for a cell), and the invariant. -/
def Obligations.Construction : Prop :=
  ∀ (image : List Byte) (initRam : List Host.Cell) (cartRam : Bool),
    if image.length < 0x8000 then State.construct image initRam cartRam = none
    else
      ∃ s, State.construct image initRam cartRam = some s ∧ s.Inv ∧ s.cartRamPresent = cartRam ∧
        s = { State.reset with mem := s.mem, cartRamPresent := cartRam } ∧
        (∀ (k : Nat) (hk : k < image.length), k < 0x8000 → s.mem.read k = image[k]) ∧
        ∀ k : Nat, 0x8000 ≤ k → isCell k = true →
          s.mem.read k = ((initRam.reverse.find? (fun p => p.1 == k)).map (fun p => p.2)).getD Config.unwritten

/-! ## Invariants of every step -/

/-- R44, R28, R33, R41, R303, R312, R380 (derived): every step from a state that meets the invariant gives one that meets
it: `F`'s low nibble is zero, a pending enable means interrupts are off, the counters are in range, the mode is the function
of the dots, an idle sequencer is at rest, and memory is in its canonical form over real cells. -/
def Obligations.StepKeepsInvariant : Prop :=
  ∀ s t : State, s.Inv → step s = .next t → t.Inv

/-- R441 to R444 (derived): the invariant holds at reset. -/
def Obligations.ResetMeetsInvariant : Prop :=
  State.reset.Inv

/-- R42, R70, R386 (derived): no step changes a byte of ROM or the presence of cartridge RAM, whatever it executes. -/
def Obligations.StepNeverChangesRom : Prop :=
  ∀ s t : State, step s = .next t →
    (∀ k, k < 0x8000 → t.mem.read k = s.mem.read k) ∧ t.cartRamPresent = s.cartRamPresent

/-- R30 (derived): interrupts come on in a step only because the delayed enable reached its end, or because `RETI` ran. -/
def Obligations.InterruptsComeOnOnlyBy : Prop :=
  ∀ s t : State, s.ime = false → step s = .next t → t.ime = true →
    s.imeDelay = 1 ∨ fetchInstr (boundary s) = .reti

/-! ## After the CPU step -/

/-- R8, R384, R385, R391, R405, R406 (derived): what every system step does after its CPU step, for the cycles that step
returned: the sequencer's tick, then the PPU's tick on the memory after the copies, then its requests ORed into `IF`, and
then, as log entry 3 has it, one mask of the environment's (0 where none is left); nothing else changes. A tick of the
sequencer is its cycles one by one; an idle one does nothing, and an active one copies a byte on each fourth cycle and goes
idle after the 160th. -/
def Obligations.TicksAfterCpuStep : Prop :=
  ∀ s : State,
    let copied := dmaTick s.cycles s
    let drawn := ppuTick s.cycles s.ppu copied.mem
    let external : Byte := s.extRequests.headD 0
    let d := s.dma
    systemTail s =
        { s with
          mem := copied.mem
          dma := copied.dma
          ppu := drawn.1
          ifr := s.ifr ||| drawn.2.setWidth 5 ||| external.setWidth 5
          extRequests := s.extRequests.tail } ∧
      dmaTick 0 s = s ∧ (∀ m n, dmaTick (m + n) s = dmaTick n (dmaTick m s)) ∧
      (d.active = false → dmaTick 1 s = s) ∧
      (d.active = true →
        dmaTick 1 s =
          if d.sub ≠ 3 then { s with dma := { d with sub := d.sub + 1 } }
          else
            { s with
              mem := s.mem.write (0xFE00 + d.offset) (dmaRead s (256 * d.src.toNat + d.offset))
              dma :=
                if d.offset = 159 then { active := false, src := d.src, offset := 0, sub := 0 }
                else { active := true, src := d.src, offset := d.offset + 1, sub := 0 } })
end

