-- ==== Sys2Proof/Laws/Exec.lean ====
section
/-! SUPPORT. The instructions by family: what `exec` gives for each family of one shape, and the case split over all
instructions by family, so that a proof about every instruction has one case per shape. -/

namespace Sys2Proof.Machine

/-! ## The meaning of a family -/

theorem exec_ldReg (rd : R8) (r : R8) (s : State) :
    exec (Instr.ldReg rd r) s = loadReg rd r s := by
  cases rd <;> cases r <;> rfl

theorem exec_ldImm (rd : R8) (n : Byte) (s : State) :
    exec (Instr.ldImm rd n) s = loadImm rd n s := by
  cases rd <;> rfl

theorem exec_ldFromHl (rd : R8) (s : State) :
    exec (Instr.ldFromHl rd) s = loadFromHl rd s := by
  cases rd <;> rfl

theorem exec_ldToHl (r : R8) (s : State) :
    exec (Instr.ldToHl r) s = storeToHl r s := by
  cases r <;> rfl

theorem exec_aluReg (op : AluOp) (r : R8) (s : State) :
    exec (Instr.aluReg op r) s = aluReg op r s := by
  cases op <;> cases r <;> rfl

theorem exec_aluMem (op : AluOp) (s : State) :
    exec (Instr.aluMem op) s = aluMem op s := by
  cases op <;> rfl

theorem exec_aluImm (op : AluOp) (n : Byte) (s : State) :
    exec (Instr.aluImm op n) s = aluImm op n s := by
  cases op <;> rfl

theorem exec_incReg (r : R8) (s : State) :
    exec (Instr.incReg r) s = incR8 r s := by
  cases r <;> rfl

theorem exec_decReg (r : R8) (s : State) :
    exec (Instr.decReg r) s = decR8 r s := by
  cases r <;> rfl

theorem exec_ldPair (p : R16) (nn : Word) (s : State) :
    exec (Instr.ldPair p nn) s = loadPair p nn s := by
  cases p <;> rfl

theorem exec_addHl (p : R16) (s : State) :
    exec (Instr.addHl p) s = addHlPair p s := by
  cases p <;> rfl

theorem exec_incPair (p : R16) (s : State) :
    exec (Instr.incPair p) s = incR16 p s := by
  cases p <;> rfl

theorem exec_decPair (p : R16) (s : State) :
    exec (Instr.decPair p) s = decR16 p s := by
  cases p <;> rfl

theorem exec_push (p : R16Stk) (s : State) :
    exec (Instr.push p) s = pushPair p s := by
  cases p <;> rfl

theorem exec_pop (p : R16Stk) (s : State) :
    exec (Instr.pop p) s = popPair p s := by
  cases p <;> rfl

theorem exec_jrIf (cc : Cond) (e : Byte) (s : State) :
    exec (Instr.jrIf cc e) s = jumpRelIf cc e s := by
  cases cc <;> rfl

theorem exec_jpIf (cc : Cond) (nn : Word) (s : State) :
    exec (Instr.jpIf cc nn) s = jumpIf cc nn s := by
  cases cc <;> rfl

theorem exec_callIf (cc : Cond) (nn : Word) (s : State) :
    exec (Instr.callIf cc nn) s = callIf cc nn s := by
  cases cc <;> rfl

theorem exec_retIf (cc : Cond) (s : State) :
    exec (Instr.retIf cc) s = returnIf cc s := by
  cases cc <;> rfl

theorem exec_rst (t : Oct) (s : State) :
    exec (Instr.rst t) s = restart t.toNat s := by
  cases t <;> rfl

theorem exec_shiftReg (op : ShiftOp) (r : R8) (s : State) :
    exec (Instr.shiftReg op r) s = shiftR8 op r s := by
  cases op <;> cases r <;> rfl

theorem exec_shiftMem (op : ShiftOp) (s : State) :
    exec (Instr.shiftMem op) s = shiftMemHl op s := by
  cases op <;> rfl

theorem exec_bitReg (b : Oct) (r : R8) (s : State) :
    exec (Instr.bitReg b r) s = bitR8 b.toNat r s := by
  cases b <;> cases r <;> rfl

theorem exec_bitMem (b : Oct) (s : State) :
    exec (Instr.bitMem b) s = bitMemHl b.toNat s := by
  cases b <;> rfl

theorem exec_resReg (b : Oct) (r : R8) (s : State) :
    exec (Instr.resReg b r) s = resR8 b.toNat r s := by
  cases b <;> cases r <;> rfl

theorem exec_resMem (b : Oct) (s : State) :
    exec (Instr.resMem b) s = resMemHl b.toNat s := by
  cases b <;> rfl

theorem exec_setReg (b : Oct) (r : R8) (s : State) :
    exec (Instr.setReg b r) s = setBitR8 b.toNat r s := by
  cases b <;> cases r <;> rfl

theorem exec_setMem (b : Oct) (s : State) :
    exec (Instr.setMem b) s = setBitMemHl b.toNat s := by
  cases b <;> rfl

/-! ## The case split by family -/

/-- A property of every instruction, from one case per family and one for each instruction that stands alone. -/
theorem instr_byFamily (P : Instr → Prop)
    (ldReg : ∀ (rd : R8) (r : R8), P (Instr.ldReg rd r))
    (ldImm : ∀ (rd : R8) (n : Byte), P (Instr.ldImm rd n))
    (ldFromHl : ∀ (rd : R8), P (Instr.ldFromHl rd))
    (ldToHl : ∀ (r : R8), P (Instr.ldToHl r))
    (aluReg : ∀ (op : AluOp) (r : R8), P (Instr.aluReg op r))
    (aluMem : ∀ (op : AluOp), P (Instr.aluMem op))
    (aluImm : ∀ (op : AluOp) (n : Byte), P (Instr.aluImm op n))
    (incReg : ∀ (r : R8), P (Instr.incReg r))
    (decReg : ∀ (r : R8), P (Instr.decReg r))
    (ldPair : ∀ (p : R16) (nn : Word), P (Instr.ldPair p nn))
    (addHl : ∀ (p : R16), P (Instr.addHl p))
    (incPair : ∀ (p : R16), P (Instr.incPair p))
    (decPair : ∀ (p : R16), P (Instr.decPair p))
    (push : ∀ (p : R16Stk), P (Instr.push p))
    (pop : ∀ (p : R16Stk), P (Instr.pop p))
    (jrIf : ∀ (cc : Cond) (e : Byte), P (Instr.jrIf cc e))
    (jpIf : ∀ (cc : Cond) (nn : Word), P (Instr.jpIf cc nn))
    (callIf : ∀ (cc : Cond) (nn : Word), P (Instr.callIf cc nn))
    (retIf : ∀ (cc : Cond), P (Instr.retIf cc))
    (rst : ∀ (t : Oct), P (Instr.rst t))
    (shiftReg : ∀ (op : ShiftOp) (r : R8), P (Instr.shiftReg op r))
    (shiftMem : ∀ (op : ShiftOp), P (Instr.shiftMem op))
    (bitReg : ∀ (b : Oct) (r : R8), P (Instr.bitReg b r))
    (bitMem : ∀ (b : Oct), P (Instr.bitMem b))
    (resReg : ∀ (b : Oct) (r : R8), P (Instr.resReg b r))
    (resMem : ∀ (b : Oct), P (Instr.resMem b))
    (setReg : ∀ (b : Oct) (r : R8), P (Instr.setReg b r))
    (setMem : ∀ (b : Oct), P (Instr.setMem b))
    (ldMNnSp : ∀ (nn : Word), P (.ldMNnSp nn))
    (stop : ∀ (n : Byte), P (.stop n))
    (jrE : ∀ (e : Byte), P (.jrE e))
    (ldMHlN : ∀ (n : Byte), P (.ldMHlN n))
    (jpNn : ∀ (nn : Word), P (.jpNn nn))
    (callNn : ∀ (nn : Word), P (.callNn nn))
    (ldhMNA : ∀ (n : Byte), P (.ldhMNA n))
    (addSpE : ∀ (e : Byte), P (.addSpE e))
    (ldMNnA : ∀ (nn : Word), P (.ldMNnA nn))
    (ldhAMN : ∀ (n : Byte), P (.ldhAMN n))
    (ldHlSpE : ∀ (e : Byte), P (.ldHlSpE e))
    (ldAMNn : ∀ (nn : Word), P (.ldAMNn nn))
    (nop : P .nop)
    (ldMBcA : P .ldMBcA)
    (rlca : P .rlca)
    (ldAMBc : P .ldAMBc)
    (rrca : P .rrca)
    (ldMDeA : P .ldMDeA)
    (rla : P .rla)
    (ldAMDe : P .ldAMDe)
    (rra : P .rra)
    (ldMHliA : P .ldMHliA)
    (daa : P .daa)
    (ldAMHli : P .ldAMHli)
    (cpl : P .cpl)
    (ldMHldA : P .ldMHldA)
    (incMHl : P .incMHl)
    (decMHl : P .decMHl)
    (scf : P .scf)
    (ldAMHld : P .ldAMHld)
    (ccf : P .ccf)
    (halt : P .halt)
    (ret : P .ret)
    (illegalD3 : P .illegalD3)
    (reti : P .reti)
    (illegalDB : P .illegalDB)
    (illegalDD : P .illegalDD)
    (ldhMCA : P .ldhMCA)
    (illegalE3 : P .illegalE3)
    (illegalE4 : P .illegalE4)
    (jpHl : P .jpHl)
    (illegalEB : P .illegalEB)
    (illegalEC : P .illegalEC)
    (illegalED : P .illegalED)
    (ldhAMC : P .ldhAMC)
    (di : P .di)
    (illegalF4 : P .illegalF4)
    (ldSpHl : P .ldSpHl)
    (ei : P .ei)
    (illegalFC : P .illegalFC)
    (illegalFD : P .illegalFD)
    (i : Instr) : P i :=
  match i with
  | .ldBcNn nn => ldPair .bc nn
  | .ldBN n => ldImm .b n
  | .ldMNnSp nn => ldMNnSp nn
  | .ldCN n => ldImm .c n
  | .stop n => stop n
  | .ldDeNn nn => ldPair .de nn
  | .ldDN n => ldImm .d n
  | .jrE e => jrE e
  | .ldEN n => ldImm .e n
  | .jrNzE e => jrIf .nz e
  | .ldHlNn nn => ldPair .hl nn
  | .ldHN n => ldImm .h n
  | .jrZE e => jrIf .z e
  | .ldLN n => ldImm .l n
  | .jrNcE e => jrIf .nc e
  | .ldSpNn nn => ldPair .sp nn
  | .ldMHlN n => ldMHlN n
  | .jrCE e => jrIf .c e
  | .ldAN n => ldImm .a n
  | .jpNzNn nn => jpIf .nz nn
  | .jpNn nn => jpNn nn
  | .callNzNn nn => callIf .nz nn
  | .addAN n => aluImm .add n
  | .jpZNn nn => jpIf .z nn
  | .callZNn nn => callIf .z nn
  | .callNn nn => callNn nn
  | .adcAN n => aluImm .adc n
  | .jpNcNn nn => jpIf .nc nn
  | .callNcNn nn => callIf .nc nn
  | .subN n => aluImm .sub n
  | .jpCNn nn => jpIf .c nn
  | .callCNn nn => callIf .c nn
  | .sbcAN n => aluImm .sbc n
  | .ldhMNA n => ldhMNA n
  | .andN n => aluImm .and n
  | .addSpE e => addSpE e
  | .ldMNnA nn => ldMNnA nn
  | .xorN n => aluImm .xor n
  | .ldhAMN n => ldhAMN n
  | .orN n => aluImm .or n
  | .ldHlSpE e => ldHlSpE e
  | .ldAMNn nn => ldAMNn nn
  | .cpN n => aluImm .cp n
  | .nop => nop
  | .ldMBcA => ldMBcA
  | .incBc => incPair .bc
  | .incB => incReg .b
  | .decB => decReg .b
  | .rlca => rlca
  | .addHlBc => addHl .bc
  | .ldAMBc => ldAMBc
  | .decBc => decPair .bc
  | .incC => incReg .c
  | .decC => decReg .c
  | .rrca => rrca
  | .ldMDeA => ldMDeA
  | .incDe => incPair .de
  | .incD => incReg .d
  | .decD => decReg .d
  | .rla => rla
  | .addHlDe => addHl .de
  | .ldAMDe => ldAMDe
  | .decDe => decPair .de
  | .incE => incReg .e
  | .decE => decReg .e
  | .rra => rra
  | .ldMHliA => ldMHliA
  | .incHl => incPair .hl
  | .incH => incReg .h
  | .decH => decReg .h
  | .daa => daa
  | .addHlHl => addHl .hl
  | .ldAMHli => ldAMHli
  | .decHl => decPair .hl
  | .incL => incReg .l
  | .decL => decReg .l
  | .cpl => cpl
  | .ldMHldA => ldMHldA
  | .incSp => incPair .sp
  | .incMHl => incMHl
  | .decMHl => decMHl
  | .scf => scf
  | .addHlSp => addHl .sp
  | .ldAMHld => ldAMHld
  | .decSp => decPair .sp
  | .incA => incReg .a
  | .decA => decReg .a
  | .ccf => ccf
  | .ldBB => ldReg .b .b
  | .ldBC => ldReg .b .c
  | .ldBD => ldReg .b .d
  | .ldBE => ldReg .b .e
  | .ldBH => ldReg .b .h
  | .ldBL => ldReg .b .l
  | .ldBMHl => ldFromHl .b
  | .ldBA => ldReg .b .a
  | .ldCB => ldReg .c .b
  | .ldCC => ldReg .c .c
  | .ldCD => ldReg .c .d
  | .ldCE => ldReg .c .e
  | .ldCH => ldReg .c .h
  | .ldCL => ldReg .c .l
  | .ldCMHl => ldFromHl .c
  | .ldCA => ldReg .c .a
  | .ldDB => ldReg .d .b
  | .ldDC => ldReg .d .c
  | .ldDD => ldReg .d .d
  | .ldDE => ldReg .d .e
  | .ldDH => ldReg .d .h
  | .ldDL => ldReg .d .l
  | .ldDMHl => ldFromHl .d
  | .ldDA => ldReg .d .a
  | .ldEB => ldReg .e .b
  | .ldEC => ldReg .e .c
  | .ldED => ldReg .e .d
  | .ldEE => ldReg .e .e
  | .ldEH => ldReg .e .h
  | .ldEL => ldReg .e .l
  | .ldEMHl => ldFromHl .e
  | .ldEA => ldReg .e .a
  | .ldHB => ldReg .h .b
  | .ldHC => ldReg .h .c
  | .ldHD => ldReg .h .d
  | .ldHE => ldReg .h .e
  | .ldHH => ldReg .h .h
  | .ldHL => ldReg .h .l
  | .ldHMHl => ldFromHl .h
  | .ldHA => ldReg .h .a
  | .ldLB => ldReg .l .b
  | .ldLC => ldReg .l .c
  | .ldLD => ldReg .l .d
  | .ldLE => ldReg .l .e
  | .ldLH => ldReg .l .h
  | .ldLL => ldReg .l .l
  | .ldLMHl => ldFromHl .l
  | .ldLA => ldReg .l .a
  | .ldMHlB => ldToHl .b
  | .ldMHlC => ldToHl .c
  | .ldMHlD => ldToHl .d
  | .ldMHlE => ldToHl .e
  | .ldMHlH => ldToHl .h
  | .ldMHlL => ldToHl .l
  | .halt => halt
  | .ldMHlA => ldToHl .a
  | .ldAB => ldReg .a .b
  | .ldAC => ldReg .a .c
  | .ldAD => ldReg .a .d
  | .ldAE => ldReg .a .e
  | .ldAH => ldReg .a .h
  | .ldAL => ldReg .a .l
  | .ldAMHl => ldFromHl .a
  | .ldAA => ldReg .a .a
  | .addAB => aluReg .add .b
  | .addAC => aluReg .add .c
  | .addAD => aluReg .add .d
  | .addAE => aluReg .add .e
  | .addAH => aluReg .add .h
  | .addAL => aluReg .add .l
  | .addAMHl => aluMem .add
  | .addAA => aluReg .add .a
  | .adcAB => aluReg .adc .b
  | .adcAC => aluReg .adc .c
  | .adcAD => aluReg .adc .d
  | .adcAE => aluReg .adc .e
  | .adcAH => aluReg .adc .h
  | .adcAL => aluReg .adc .l
  | .adcAMHl => aluMem .adc
  | .adcAA => aluReg .adc .a
  | .subB => aluReg .sub .b
  | .subC => aluReg .sub .c
  | .subD => aluReg .sub .d
  | .subE => aluReg .sub .e
  | .subH => aluReg .sub .h
  | .subL => aluReg .sub .l
  | .subMHl => aluMem .sub
  | .subA => aluReg .sub .a
  | .sbcAB => aluReg .sbc .b
  | .sbcAC => aluReg .sbc .c
  | .sbcAD => aluReg .sbc .d
  | .sbcAE => aluReg .sbc .e
  | .sbcAH => aluReg .sbc .h
  | .sbcAL => aluReg .sbc .l
  | .sbcAMHl => aluMem .sbc
  | .sbcAA => aluReg .sbc .a
  | .andB => aluReg .and .b
  | .andC => aluReg .and .c
  | .andD => aluReg .and .d
  | .andE => aluReg .and .e
  | .andH => aluReg .and .h
  | .andL => aluReg .and .l
  | .andMHl => aluMem .and
  | .andA => aluReg .and .a
  | .xorB => aluReg .xor .b
  | .xorC => aluReg .xor .c
  | .xorD => aluReg .xor .d
  | .xorE => aluReg .xor .e
  | .xorH => aluReg .xor .h
  | .xorL => aluReg .xor .l
  | .xorMHl => aluMem .xor
  | .xorA => aluReg .xor .a
  | .orB => aluReg .or .b
  | .orC => aluReg .or .c
  | .orD => aluReg .or .d
  | .orE => aluReg .or .e
  | .orH => aluReg .or .h
  | .orL => aluReg .or .l
  | .orMHl => aluMem .or
  | .orA => aluReg .or .a
  | .cpB => aluReg .cp .b
  | .cpC => aluReg .cp .c
  | .cpD => aluReg .cp .d
  | .cpE => aluReg .cp .e
  | .cpH => aluReg .cp .h
  | .cpL => aluReg .cp .l
  | .cpMHl => aluMem .cp
  | .cpA => aluReg .cp .a
  | .retNz => retIf .nz
  | .popBc => pop .bc
  | .pushBc => push .bc
  | .rst00 => rst .n0
  | .retZ => retIf .z
  | .ret => ret
  | .rst08 => rst .n1
  | .retNc => retIf .nc
  | .popDe => pop .de
  | .illegalD3 => illegalD3
  | .pushDe => push .de
  | .rst10 => rst .n2
  | .retC => retIf .c
  | .reti => reti
  | .illegalDB => illegalDB
  | .illegalDD => illegalDD
  | .rst18 => rst .n3
  | .popHl => pop .hl
  | .ldhMCA => ldhMCA
  | .illegalE3 => illegalE3
  | .illegalE4 => illegalE4
  | .pushHl => push .hl
  | .rst20 => rst .n4
  | .jpHl => jpHl
  | .illegalEB => illegalEB
  | .illegalEC => illegalEC
  | .illegalED => illegalED
  | .rst28 => rst .n5
  | .popAf => pop .af
  | .ldhAMC => ldhAMC
  | .di => di
  | .illegalF4 => illegalF4
  | .pushAf => push .af
  | .rst30 => rst .n6
  | .ldSpHl => ldSpHl
  | .ei => ei
  | .illegalFC => illegalFC
  | .illegalFD => illegalFD
  | .rst38 => rst .n7
  | .rlcB => shiftReg .rlc .b
  | .rlcC => shiftReg .rlc .c
  | .rlcD => shiftReg .rlc .d
  | .rlcE => shiftReg .rlc .e
  | .rlcH => shiftReg .rlc .h
  | .rlcL => shiftReg .rlc .l
  | .rlcMHl => shiftMem .rlc
  | .rlcA => shiftReg .rlc .a
  | .rrcB => shiftReg .rrc .b
  | .rrcC => shiftReg .rrc .c
  | .rrcD => shiftReg .rrc .d
  | .rrcE => shiftReg .rrc .e
  | .rrcH => shiftReg .rrc .h
  | .rrcL => shiftReg .rrc .l
  | .rrcMHl => shiftMem .rrc
  | .rrcA => shiftReg .rrc .a
  | .rlB => shiftReg .rl .b
  | .rlC => shiftReg .rl .c
  | .rlD => shiftReg .rl .d
  | .rlE => shiftReg .rl .e
  | .rlH => shiftReg .rl .h
  | .rlL => shiftReg .rl .l
  | .rlMHl => shiftMem .rl
  | .rlA => shiftReg .rl .a
  | .rrB => shiftReg .rr .b
  | .rrC => shiftReg .rr .c
  | .rrD => shiftReg .rr .d
  | .rrE => shiftReg .rr .e
  | .rrH => shiftReg .rr .h
  | .rrL => shiftReg .rr .l
  | .rrMHl => shiftMem .rr
  | .rrA => shiftReg .rr .a
  | .slaB => shiftReg .sla .b
  | .slaC => shiftReg .sla .c
  | .slaD => shiftReg .sla .d
  | .slaE => shiftReg .sla .e
  | .slaH => shiftReg .sla .h
  | .slaL => shiftReg .sla .l
  | .slaMHl => shiftMem .sla
  | .slaA => shiftReg .sla .a
  | .sraB => shiftReg .sra .b
  | .sraC => shiftReg .sra .c
  | .sraD => shiftReg .sra .d
  | .sraE => shiftReg .sra .e
  | .sraH => shiftReg .sra .h
  | .sraL => shiftReg .sra .l
  | .sraMHl => shiftMem .sra
  | .sraA => shiftReg .sra .a
  | .swapB => shiftReg .swap .b
  | .swapC => shiftReg .swap .c
  | .swapD => shiftReg .swap .d
  | .swapE => shiftReg .swap .e
  | .swapH => shiftReg .swap .h
  | .swapL => shiftReg .swap .l
  | .swapMHl => shiftMem .swap
  | .swapA => shiftReg .swap .a
  | .srlB => shiftReg .srl .b
  | .srlC => shiftReg .srl .c
  | .srlD => shiftReg .srl .d
  | .srlE => shiftReg .srl .e
  | .srlH => shiftReg .srl .h
  | .srlL => shiftReg .srl .l
  | .srlMHl => shiftMem .srl
  | .srlA => shiftReg .srl .a
  | .bit0B => bitReg .n0 .b
  | .bit0C => bitReg .n0 .c
  | .bit0D => bitReg .n0 .d
  | .bit0E => bitReg .n0 .e
  | .bit0H => bitReg .n0 .h
  | .bit0L => bitReg .n0 .l
  | .bit0MHl => bitMem .n0
  | .bit0A => bitReg .n0 .a
  | .bit1B => bitReg .n1 .b
  | .bit1C => bitReg .n1 .c
  | .bit1D => bitReg .n1 .d
  | .bit1E => bitReg .n1 .e
  | .bit1H => bitReg .n1 .h
  | .bit1L => bitReg .n1 .l
  | .bit1MHl => bitMem .n1
  | .bit1A => bitReg .n1 .a
  | .bit2B => bitReg .n2 .b
  | .bit2C => bitReg .n2 .c
  | .bit2D => bitReg .n2 .d
  | .bit2E => bitReg .n2 .e
  | .bit2H => bitReg .n2 .h
  | .bit2L => bitReg .n2 .l
  | .bit2MHl => bitMem .n2
  | .bit2A => bitReg .n2 .a
  | .bit3B => bitReg .n3 .b
  | .bit3C => bitReg .n3 .c
  | .bit3D => bitReg .n3 .d
  | .bit3E => bitReg .n3 .e
  | .bit3H => bitReg .n3 .h
  | .bit3L => bitReg .n3 .l
  | .bit3MHl => bitMem .n3
  | .bit3A => bitReg .n3 .a
  | .bit4B => bitReg .n4 .b
  | .bit4C => bitReg .n4 .c
  | .bit4D => bitReg .n4 .d
  | .bit4E => bitReg .n4 .e
  | .bit4H => bitReg .n4 .h
  | .bit4L => bitReg .n4 .l
  | .bit4MHl => bitMem .n4
  | .bit4A => bitReg .n4 .a
  | .bit5B => bitReg .n5 .b
  | .bit5C => bitReg .n5 .c
  | .bit5D => bitReg .n5 .d
  | .bit5E => bitReg .n5 .e
  | .bit5H => bitReg .n5 .h
  | .bit5L => bitReg .n5 .l
  | .bit5MHl => bitMem .n5
  | .bit5A => bitReg .n5 .a
  | .bit6B => bitReg .n6 .b
  | .bit6C => bitReg .n6 .c
  | .bit6D => bitReg .n6 .d
  | .bit6E => bitReg .n6 .e
  | .bit6H => bitReg .n6 .h
  | .bit6L => bitReg .n6 .l
  | .bit6MHl => bitMem .n6
  | .bit6A => bitReg .n6 .a
  | .bit7B => bitReg .n7 .b
  | .bit7C => bitReg .n7 .c
  | .bit7D => bitReg .n7 .d
  | .bit7E => bitReg .n7 .e
  | .bit7H => bitReg .n7 .h
  | .bit7L => bitReg .n7 .l
  | .bit7MHl => bitMem .n7
  | .bit7A => bitReg .n7 .a
  | .res0B => resReg .n0 .b
  | .res0C => resReg .n0 .c
  | .res0D => resReg .n0 .d
  | .res0E => resReg .n0 .e
  | .res0H => resReg .n0 .h
  | .res0L => resReg .n0 .l
  | .res0MHl => resMem .n0
  | .res0A => resReg .n0 .a
  | .res1B => resReg .n1 .b
  | .res1C => resReg .n1 .c
  | .res1D => resReg .n1 .d
  | .res1E => resReg .n1 .e
  | .res1H => resReg .n1 .h
  | .res1L => resReg .n1 .l
  | .res1MHl => resMem .n1
  | .res1A => resReg .n1 .a
  | .res2B => resReg .n2 .b
  | .res2C => resReg .n2 .c
  | .res2D => resReg .n2 .d
  | .res2E => resReg .n2 .e
  | .res2H => resReg .n2 .h
  | .res2L => resReg .n2 .l
  | .res2MHl => resMem .n2
  | .res2A => resReg .n2 .a
  | .res3B => resReg .n3 .b
  | .res3C => resReg .n3 .c
  | .res3D => resReg .n3 .d
  | .res3E => resReg .n3 .e
  | .res3H => resReg .n3 .h
  | .res3L => resReg .n3 .l
  | .res3MHl => resMem .n3
  | .res3A => resReg .n3 .a
  | .res4B => resReg .n4 .b
  | .res4C => resReg .n4 .c
  | .res4D => resReg .n4 .d
  | .res4E => resReg .n4 .e
  | .res4H => resReg .n4 .h
  | .res4L => resReg .n4 .l
  | .res4MHl => resMem .n4
  | .res4A => resReg .n4 .a
  | .res5B => resReg .n5 .b
  | .res5C => resReg .n5 .c
  | .res5D => resReg .n5 .d
  | .res5E => resReg .n5 .e
  | .res5H => resReg .n5 .h
  | .res5L => resReg .n5 .l
  | .res5MHl => resMem .n5
  | .res5A => resReg .n5 .a
  | .res6B => resReg .n6 .b
  | .res6C => resReg .n6 .c
  | .res6D => resReg .n6 .d
  | .res6E => resReg .n6 .e
  | .res6H => resReg .n6 .h
  | .res6L => resReg .n6 .l
  | .res6MHl => resMem .n6
  | .res6A => resReg .n6 .a
  | .res7B => resReg .n7 .b
  | .res7C => resReg .n7 .c
  | .res7D => resReg .n7 .d
  | .res7E => resReg .n7 .e
  | .res7H => resReg .n7 .h
  | .res7L => resReg .n7 .l
  | .res7MHl => resMem .n7
  | .res7A => resReg .n7 .a
  | .set0B => setReg .n0 .b
  | .set0C => setReg .n0 .c
  | .set0D => setReg .n0 .d
  | .set0E => setReg .n0 .e
  | .set0H => setReg .n0 .h
  | .set0L => setReg .n0 .l
  | .set0MHl => setMem .n0
  | .set0A => setReg .n0 .a
  | .set1B => setReg .n1 .b
  | .set1C => setReg .n1 .c
  | .set1D => setReg .n1 .d
  | .set1E => setReg .n1 .e
  | .set1H => setReg .n1 .h
  | .set1L => setReg .n1 .l
  | .set1MHl => setMem .n1
  | .set1A => setReg .n1 .a
  | .set2B => setReg .n2 .b
  | .set2C => setReg .n2 .c
  | .set2D => setReg .n2 .d
  | .set2E => setReg .n2 .e
  | .set2H => setReg .n2 .h
  | .set2L => setReg .n2 .l
  | .set2MHl => setMem .n2
  | .set2A => setReg .n2 .a
  | .set3B => setReg .n3 .b
  | .set3C => setReg .n3 .c
  | .set3D => setReg .n3 .d
  | .set3E => setReg .n3 .e
  | .set3H => setReg .n3 .h
  | .set3L => setReg .n3 .l
  | .set3MHl => setMem .n3
  | .set3A => setReg .n3 .a
  | .set4B => setReg .n4 .b
  | .set4C => setReg .n4 .c
  | .set4D => setReg .n4 .d
  | .set4E => setReg .n4 .e
  | .set4H => setReg .n4 .h
  | .set4L => setReg .n4 .l
  | .set4MHl => setMem .n4
  | .set4A => setReg .n4 .a
  | .set5B => setReg .n5 .b
  | .set5C => setReg .n5 .c
  | .set5D => setReg .n5 .d
  | .set5E => setReg .n5 .e
  | .set5H => setReg .n5 .h
  | .set5L => setReg .n5 .l
  | .set5MHl => setMem .n5
  | .set5A => setReg .n5 .a
  | .set6B => setReg .n6 .b
  | .set6C => setReg .n6 .c
  | .set6D => setReg .n6 .d
  | .set6E => setReg .n6 .e
  | .set6H => setReg .n6 .h
  | .set6L => setReg .n6 .l
  | .set6MHl => setMem .n6
  | .set6A => setReg .n6 .a
  | .set7B => setReg .n7 .b
  | .set7C => setReg .n7 .c
  | .set7D => setReg .n7 .d
  | .set7E => setReg .n7 .e
  | .set7H => setReg .n7 .h
  | .set7L => setReg .n7 .l
  | .set7MHl => setMem .n7
  | .set7A => setReg .n7 .a

end Sys2Proof.Machine
end

