-- ==== Sys2Proof/Laws/Memory.lean ====
section
/-! SUPPORT. Memory: what a read after a write gives, and that every operation keeps the canonical form. -/

namespace Sys2Proof.Machine

theorem Memory.read_nil (a : Nat) : Memory.read [] a = Config.unwritten := rfl

/-- An address that is not listed reads as `Config.unwritten`. -/
theorem Memory.read_of_not_listed {m : Memory} {a : Nat} (h : ∀ p ∈ m, a ≠ p.1) : m.read a = Config.unwritten := by
  induction m with
  | nil => rfl
  | cons p m ih =>
    simp only [List.mem_cons, forall_eq_or_imp] at h
    simp only [Memory.read, h.1, if_false]
    exact ih h.2

/-- A write leaves every other address alone. -/
theorem Memory.read_write_other {m : Memory} {a b : Nat} {v : Byte} (h : b ≠ a) : (m.write a v).read b = m.read b := by
  induction m with
  | nil => simp only [Memory.write]; split <;> simp [Memory.read, h]
  | cons p m ih =>
    simp only [Memory.write]
    split
    · split <;> simp [Memory.read, h]
    · split
      · rename_i hap
        split <;> simp [Memory.read, ← hap, h]
      · simp only [Memory.read, ih]

/-- In the canonical form, the address written reads as the byte written. -/
theorem Memory.read_write_same {m : Memory} (hm : m.wf) (a : Nat) (v : Byte) : (m.write a v).read a = v := by
  induction m with
  | nil =>
    simp only [Memory.write]
    split
    · rename_i hv; rw [hv, Memory.read_nil]
    · simp [Memory.read]
  | cons p m ih =>
    obtain ⟨hsort, hne⟩ := hm
    rw [List.pairwise_cons] at hsort
    simp only [List.mem_cons, forall_eq_or_imp] at hne
    have hm' : Memory.wf m := ⟨hsort.2, hne.2⟩
    simp only [Memory.write]
    split
    · rename_i hlt
      split
      · rename_i hv
        rw [hv]
        apply Memory.read_of_not_listed
        intro q hq
        rcases List.mem_cons.1 hq with rfl | hq
        · omega
        · have := hsort.1 q hq; omega
      · simp [Memory.read]
    · split
      · rename_i hap
        split
        · rename_i hv
          rw [hv]
          apply Memory.read_of_not_listed
          intro q hq
          have := hsort.1 q hq; omega
        · simp [Memory.read]
      · rename_i hap
        simp only [Memory.read, hap, if_false]
        exact ih hm'

/-- A listed entry after a write is the written one or an old one. -/
theorem Memory.mem_write {m : Memory} {a : Nat} {v : Byte} {p : Host.Cell} (h : p ∈ m.write a v) :
    (p = (a, v) ∧ v ≠ Config.unwritten) ∨ p ∈ m := by
  induction m with
  | nil =>
    simp only [Memory.write] at h
    split at h
    · exact absurd h List.not_mem_nil
    · exact .inl ⟨List.mem_singleton.1 h, ‹_›⟩
  | cons q m ih =>
    simp only [Memory.write] at h
    split at h
    · split at h
      · exact .inr h
      · rcases List.mem_cons.1 h with h | h
        · exact .inl ⟨h, ‹_›⟩
        · exact .inr h
    · split at h
      · split at h
        · exact .inr (List.mem_cons_of_mem _ h)
        · rcases List.mem_cons.1 h with h | h
          · exact .inl ⟨h, ‹_›⟩
          · exact .inr (List.mem_cons_of_mem _ h)
      · rcases List.mem_cons.1 h with h | h
        · exact .inr (h ▸ List.mem_cons_self)
        · exact (ih h).imp id (List.mem_cons_of_mem _)

/-- A write keeps the canonical form. -/
theorem Memory.write_wf {m : Memory} (hm : m.wf) (a : Nat) (v : Byte) : (m.write a v).wf := by
  refine ⟨?_, fun p hp => ?_⟩
  · induction m with
    | nil => simp only [Memory.write]; split <;> simp
    | cons q m ih =>
      obtain ⟨hsort, hne⟩ := hm
      have hcons := hsort
      rw [List.pairwise_cons] at hsort
      simp only [List.mem_cons, forall_eq_or_imp] at hne
      simp only [Memory.write]
      split
      · rename_i hlt
        split
        · exact hcons
        · refine List.pairwise_cons.2 ⟨fun p hp => ?_, hcons⟩
          rcases List.mem_cons.1 hp with rfl | hp
          · exact hlt
          · exact Nat.lt_trans hlt (hsort.1 p hp)
      · split
        · rename_i hap
          split
          · exact hsort.2
          · exact List.pairwise_cons.2 ⟨fun p hp => hap ▸ hsort.1 p hp, hsort.2⟩
        · rename_i hlt hap
          refine List.pairwise_cons.2 ⟨fun p hp => ?_, ih ⟨hsort.2, hne.2⟩⟩
          rcases Memory.mem_write hp with ⟨rfl, -⟩ | hp
          · show q.1 < a; omega
          · exact hsort.1 p hp
  · rcases Memory.mem_write hp with ⟨rfl, hv⟩ | hp
    · exact hv
    · exact hm.2 p hp

/-- A write to a cell keeps memory over real cells. -/
theorem Memory.write_backed {m : Memory} (hm : m.backed) {a : Nat} (v : Byte) (ha : isCell a = true) :
    (m.write a v).backed := by
  intro p hp
  rcases Memory.mem_write hp with ⟨rfl, -⟩ | hp
  · exact ha
  · exact hm p hp

theorem Memory.mem_ofBytes {k : Nat} {l : List Byte} {p : Host.Cell} (h : p ∈ Memory.ofBytes k l) :
    k ≤ p.1 ∧ p.1 < k + l.length ∧ p.2 ≠ Config.unwritten := by
  induction l generalizing k with
  | nil => exact absurd h List.not_mem_nil
  | cons v l ih =>
    simp only [Memory.ofBytes] at h
    simp only [List.length_cons]
    split at h
    · have := ih h; exact ⟨by omega, by omega, this.2.2⟩
    · rcases List.mem_cons.1 h with rfl | h
      · exact ⟨Nat.le_refl _, by show k < _; omega, ‹_›⟩
      · have := ih h; exact ⟨by omega, by omega, this.2.2⟩

/-- A list of bytes is laid out in the canonical form. -/
theorem Memory.ofBytes_wf (k : Nat) (l : List Byte) : (Memory.ofBytes k l).wf := by
  refine ⟨?_, fun p hp => (Memory.mem_ofBytes hp).2.2⟩
  induction l generalizing k with
  | nil => exact List.Pairwise.nil
  | cons v l ih =>
    simp only [Memory.ofBytes]
    split
    · exact ih (k + 1)
    · exact List.pairwise_cons.2 ⟨fun p hp => by have := (Memory.mem_ofBytes hp).1; show k < _; omega, ih (k + 1)⟩

/-- Byte `i` of the list reads back at `k + i`. -/
theorem Memory.read_ofBytes (k : Nat) (l : List Byte) (i : Nat) :
    (Memory.ofBytes k l).read (k + i) = if h : i < l.length then l[i] else Config.unwritten := by
  induction l generalizing k i with
  | nil => simp [Memory.ofBytes, Memory.read]
  | cons v l ih =>
    have hrest : ∀ j, (Memory.ofBytes (k + 1) l).read (k + (j + 1)) = if h : j < l.length then l[j] else Config.unwritten :=
      fun j => by rw [← ih (k + 1) j]; congr 1; omega
    have h0 : (Memory.ofBytes (k + 1) l).read k = Config.unwritten :=
      Memory.read_of_not_listed fun p hp => by have := (Memory.mem_ofBytes hp).1; omega
    simp only [Memory.ofBytes]
    cases i with
    | zero => split <;> simp_all [Memory.read]
    | succ j => split <;> simp [Memory.read, hrest]

end Sys2Proof.Machine
end

