-- ==== Sys2Proof/Laws/State.lean ====
section
/-! SUPPORT. The projections of every named update of the state: one lemma per field and update, so that no proof unfolds
one. -/

namespace Sys2Proof.Machine

/-! ## A register of R104 -/

@[simp] theorem State.r8_setR8 (s : State) (r r' : R8) (v : Byte) :
    (s.setR8 r v).r8 r' = if r' = r then v else s.r8 r' := by cases r <;> cases r' <;> rfl
@[simp] theorem State.setR8_f (s : State) (r : R8) (v : Byte) : (s.setR8 r v).f = s.f := by cases r <;> rfl
@[simp] theorem State.setR8_sp (s : State) (r : R8) (v : Byte) : (s.setR8 r v).sp = s.sp := by cases r <;> rfl
@[simp] theorem State.setR8_pc (s : State) (r : R8) (v : Byte) : (s.setR8 r v).pc = s.pc := by cases r <;> rfl
@[simp] theorem State.setR8_ime (s : State) (r : R8) (v : Byte) : (s.setR8 r v).ime = s.ime := by cases r <;> rfl
@[simp] theorem State.setR8_imeDelay (s : State) (r : R8) (v : Byte) : (s.setR8 r v).imeDelay = s.imeDelay := by cases r <;> rfl
@[simp] theorem State.setR8_ie (s : State) (r : R8) (v : Byte) : (s.setR8 r v).ie = s.ie := by cases r <;> rfl
@[simp] theorem State.setR8_ifr (s : State) (r : R8) (v : Byte) : (s.setR8 r v).ifr = s.ifr := by cases r <;> rfl
@[simp] theorem State.setR8_runState (s : State) (r : R8) (v : Byte) : (s.setR8 r v).runState = s.runState := by cases r <;> rfl
@[simp] theorem State.setR8_haltBug (s : State) (r : R8) (v : Byte) : (s.setR8 r v).haltBug = s.haltBug := by cases r <;> rfl
@[simp] theorem State.setR8_ppu (s : State) (r : R8) (v : Byte) : (s.setR8 r v).ppu = s.ppu := by cases r <;> rfl
@[simp] theorem State.setR8_dma (s : State) (r : R8) (v : Byte) : (s.setR8 r v).dma = s.dma := by cases r <;> rfl
@[simp] theorem State.setR8_mem (s : State) (r : R8) (v : Byte) : (s.setR8 r v).mem = s.mem := by cases r <;> rfl
@[simp] theorem State.setR8_cartRamPresent (s : State) (r : R8) (v : Byte) : (s.setR8 r v).cartRamPresent = s.cartRamPresent := by cases r <;> rfl
@[simp] theorem State.setR8_extRequests (s : State) (r : R8) (v : Byte) : (s.setR8 r v).extRequests = s.extRequests := by cases r <;> rfl
@[simp] theorem State.setR8_cycles (s : State) (r : R8) (v : Byte) : (s.setR8 r v).cycles = s.cycles := by cases r <;> rfl

@[simp] theorem State.r8_b (s : State) : s.r8 .b = s.b := rfl
@[simp] theorem State.r8_c (s : State) : s.r8 .c = s.c := rfl
@[simp] theorem State.r8_d (s : State) : s.r8 .d = s.d := rfl
@[simp] theorem State.r8_e (s : State) : s.r8 .e = s.e := rfl
@[simp] theorem State.r8_h (s : State) : s.r8 .h = s.h := rfl
@[simp] theorem State.r8_l (s : State) : s.r8 .l = s.l := rfl
@[simp] theorem State.r8_a (s : State) : s.r8 .a = s.a := rfl

/-! ## Words and their halves -/

theorem wordOf_toNat (x y : Byte) : (wordOf x y).toNat = x.toNat * 256 + y.toNat := by
  have := y.isLt
  rw [wordOf, BitVec.toNat_append, ← Nat.shiftLeft_add_eq_or_of_lt y.isLt, Nat.shiftLeft_eq]

theorem highByte_toNat (w : Word) : (highByte w).toNat = w.toNat / 256 := by
  have := w.isLt
  simp only [highByte, BitVec.extractLsb'_toNat, Nat.shiftRight_eq_div_pow]; omega

theorem lowByte_toNat (w : Word) : (lowByte w).toNat = w.toNat % 256 := by
  simp only [lowByte, BitVec.extractLsb'_toNat, Nat.shiftRight_eq_div_pow]; omega

@[simp] theorem highByte_wordOf (x y : Byte) : highByte (wordOf x y) = x := by
  have := y.isLt
  exact BitVec.eq_of_toNat_eq (by rw [highByte_toNat, wordOf_toNat]; omega)

@[simp] theorem lowByte_wordOf (x y : Byte) : lowByte (wordOf x y) = y := by
  have := y.isLt
  exact BitVec.eq_of_toNat_eq (by rw [lowByte_toNat, wordOf_toNat]; omega)

@[simp] theorem wordOf_high_low (w : Word) : wordOf (highByte w) (lowByte w) = w :=
  BitVec.eq_of_toNat_eq (by rw [wordOf_toNat, highByte_toNat, lowByte_toNat]; omega)

/-! ## `HL` -/

@[simp] theorem State.hl_setHl (s : State) (v : Word) : (s.setHl v).hl = v := by simp [State.hl, State.setHl]
@[simp] theorem State.setHl_h (s : State) (v : Word) : (s.setHl v).h = highByte v := rfl
@[simp] theorem State.setHl_l (s : State) (v : Word) : (s.setHl v).l = lowByte v := rfl
@[simp] theorem State.setHl_a (s : State) (v : Word) : (s.setHl v).a = s.a := rfl
@[simp] theorem State.setHl_f (s : State) (v : Word) : (s.setHl v).f = s.f := rfl
@[simp] theorem State.setHl_b (s : State) (v : Word) : (s.setHl v).b = s.b := rfl
@[simp] theorem State.setHl_c (s : State) (v : Word) : (s.setHl v).c = s.c := rfl
@[simp] theorem State.setHl_d (s : State) (v : Word) : (s.setHl v).d = s.d := rfl
@[simp] theorem State.setHl_e (s : State) (v : Word) : (s.setHl v).e = s.e := rfl
@[simp] theorem State.setHl_sp (s : State) (v : Word) : (s.setHl v).sp = s.sp := rfl
@[simp] theorem State.setHl_pc (s : State) (v : Word) : (s.setHl v).pc = s.pc := rfl
@[simp] theorem State.setHl_ime (s : State) (v : Word) : (s.setHl v).ime = s.ime := rfl
@[simp] theorem State.setHl_imeDelay (s : State) (v : Word) : (s.setHl v).imeDelay = s.imeDelay := rfl
@[simp] theorem State.setHl_ie (s : State) (v : Word) : (s.setHl v).ie = s.ie := rfl
@[simp] theorem State.setHl_ifr (s : State) (v : Word) : (s.setHl v).ifr = s.ifr := rfl
@[simp] theorem State.setHl_runState (s : State) (v : Word) : (s.setHl v).runState = s.runState := rfl
@[simp] theorem State.setHl_haltBug (s : State) (v : Word) : (s.setHl v).haltBug = s.haltBug := rfl
@[simp] theorem State.setHl_ppu (s : State) (v : Word) : (s.setHl v).ppu = s.ppu := rfl
@[simp] theorem State.setHl_dma (s : State) (v : Word) : (s.setHl v).dma = s.dma := rfl
@[simp] theorem State.setHl_mem (s : State) (v : Word) : (s.setHl v).mem = s.mem := rfl
@[simp] theorem State.setHl_cartRamPresent (s : State) (v : Word) : (s.setHl v).cartRamPresent = s.cartRamPresent := rfl
@[simp] theorem State.setHl_extRequests (s : State) (v : Word) : (s.setHl v).extRequests = s.extRequests := rfl
@[simp] theorem State.setHl_cycles (s : State) (v : Word) : (s.setHl v).cycles = s.cycles := rfl

/-! ## A pair of R105 -/

@[simp] theorem State.r16_setR16 (s : State) (p q : R16) (v : Word) :
    (s.setR16 p v).r16 q = if q = p then v else s.r16 q := by
  cases p <;> cases q <;> simp [State.setR16, State.r16, State.bc, State.de, State.hl, State.setHl]

@[simp] theorem State.setR16_a (s : State) (p : R16) (v : Word) : (s.setR16 p v).a = s.a := by cases p <;> rfl
@[simp] theorem State.setR16_f (s : State) (p : R16) (v : Word) : (s.setR16 p v).f = s.f := by cases p <;> rfl
@[simp] theorem State.setR16_pc (s : State) (p : R16) (v : Word) : (s.setR16 p v).pc = s.pc := by cases p <;> rfl
@[simp] theorem State.setR16_ime (s : State) (p : R16) (v : Word) : (s.setR16 p v).ime = s.ime := by cases p <;> rfl
@[simp] theorem State.setR16_imeDelay (s : State) (p : R16) (v : Word) : (s.setR16 p v).imeDelay = s.imeDelay := by cases p <;> rfl
@[simp] theorem State.setR16_ie (s : State) (p : R16) (v : Word) : (s.setR16 p v).ie = s.ie := by cases p <;> rfl
@[simp] theorem State.setR16_ifr (s : State) (p : R16) (v : Word) : (s.setR16 p v).ifr = s.ifr := by cases p <;> rfl
@[simp] theorem State.setR16_runState (s : State) (p : R16) (v : Word) : (s.setR16 p v).runState = s.runState := by cases p <;> rfl
@[simp] theorem State.setR16_haltBug (s : State) (p : R16) (v : Word) : (s.setR16 p v).haltBug = s.haltBug := by cases p <;> rfl
@[simp] theorem State.setR16_ppu (s : State) (p : R16) (v : Word) : (s.setR16 p v).ppu = s.ppu := by cases p <;> rfl
@[simp] theorem State.setR16_dma (s : State) (p : R16) (v : Word) : (s.setR16 p v).dma = s.dma := by cases p <;> rfl
@[simp] theorem State.setR16_mem (s : State) (p : R16) (v : Word) : (s.setR16 p v).mem = s.mem := by cases p <;> rfl
@[simp] theorem State.setR16_cartRamPresent (s : State) (p : R16) (v : Word) : (s.setR16 p v).cartRamPresent = s.cartRamPresent := by cases p <;> rfl
@[simp] theorem State.setR16_extRequests (s : State) (p : R16) (v : Word) : (s.setR16 p v).extRequests = s.extRequests := by cases p <;> rfl
@[simp] theorem State.setR16_cycles (s : State) (p : R16) (v : Word) : (s.setR16 p v).cycles = s.cycles := by cases p <;> rfl

/-! ## A pair of R106 -/

@[simp] theorem State.r16stk_setR16stk (s : State) (p q : R16Stk) (v : Word) :
    (s.setR16stk p v).r16stk q = if q = p then (if p = .af then wordOf (highByte v) (lowByte v &&& 0xF0) else v)
      else s.r16stk q := by
  cases p <;> cases q <;> simp [State.setR16stk, State.r16stk, State.bc, State.de, State.hl, State.af, State.setHl]

@[simp] theorem State.setR16stk_sp (s : State) (p : R16Stk) (v : Word) : (s.setR16stk p v).sp = s.sp := by cases p <;> rfl
@[simp] theorem State.setR16stk_pc (s : State) (p : R16Stk) (v : Word) : (s.setR16stk p v).pc = s.pc := by cases p <;> rfl
@[simp] theorem State.setR16stk_ime (s : State) (p : R16Stk) (v : Word) : (s.setR16stk p v).ime = s.ime := by cases p <;> rfl
@[simp] theorem State.setR16stk_imeDelay (s : State) (p : R16Stk) (v : Word) : (s.setR16stk p v).imeDelay = s.imeDelay := by cases p <;> rfl
@[simp] theorem State.setR16stk_ie (s : State) (p : R16Stk) (v : Word) : (s.setR16stk p v).ie = s.ie := by cases p <;> rfl
@[simp] theorem State.setR16stk_ifr (s : State) (p : R16Stk) (v : Word) : (s.setR16stk p v).ifr = s.ifr := by cases p <;> rfl
@[simp] theorem State.setR16stk_runState (s : State) (p : R16Stk) (v : Word) : (s.setR16stk p v).runState = s.runState := by cases p <;> rfl
@[simp] theorem State.setR16stk_haltBug (s : State) (p : R16Stk) (v : Word) : (s.setR16stk p v).haltBug = s.haltBug := by cases p <;> rfl
@[simp] theorem State.setR16stk_ppu (s : State) (p : R16Stk) (v : Word) : (s.setR16stk p v).ppu = s.ppu := by cases p <;> rfl
@[simp] theorem State.setR16stk_dma (s : State) (p : R16Stk) (v : Word) : (s.setR16stk p v).dma = s.dma := by cases p <;> rfl
@[simp] theorem State.setR16stk_mem (s : State) (p : R16Stk) (v : Word) : (s.setR16stk p v).mem = s.mem := by cases p <;> rfl
@[simp] theorem State.setR16stk_cartRamPresent (s : State) (p : R16Stk) (v : Word) : (s.setR16stk p v).cartRamPresent = s.cartRamPresent := by cases p <;> rfl
@[simp] theorem State.setR16stk_extRequests (s : State) (p : R16Stk) (v : Word) : (s.setR16stk p v).extRequests = s.extRequests := by cases p <;> rfl
@[simp] theorem State.setR16stk_cycles (s : State) (p : R16Stk) (v : Word) : (s.setR16stk p v).cycles = s.cycles := by cases p <;> rfl

/-! ## The flags -/

@[simp] theorem State.setFlags_f (s : State) (z n h c : Bool) : (s.setFlags z n h c).f = flagByte z n h c := rfl
@[simp] theorem State.setFlags_a (s : State) (z n h c : Bool) : (s.setFlags z n h c).a = s.a := rfl
@[simp] theorem State.setFlags_b (s : State) (z n h c : Bool) : (s.setFlags z n h c).b = s.b := rfl
@[simp] theorem State.setFlags_c (s : State) (z n h c : Bool) : (s.setFlags z n h c).c = s.c := rfl
@[simp] theorem State.setFlags_d (s : State) (z n h c : Bool) : (s.setFlags z n h c).d = s.d := rfl
@[simp] theorem State.setFlags_e (s : State) (z n h c : Bool) : (s.setFlags z n h c).e = s.e := rfl
@[simp] theorem State.setFlags_h (s : State) (z n h c : Bool) : (s.setFlags z n h c).h = s.h := rfl
@[simp] theorem State.setFlags_l (s : State) (z n h c : Bool) : (s.setFlags z n h c).l = s.l := rfl
@[simp] theorem State.setFlags_sp (s : State) (z n h c : Bool) : (s.setFlags z n h c).sp = s.sp := rfl
@[simp] theorem State.setFlags_pc (s : State) (z n h c : Bool) : (s.setFlags z n h c).pc = s.pc := rfl
@[simp] theorem State.setFlags_ime (s : State) (z n h c : Bool) : (s.setFlags z n h c).ime = s.ime := rfl
@[simp] theorem State.setFlags_imeDelay (s : State) (z n h c : Bool) : (s.setFlags z n h c).imeDelay = s.imeDelay := rfl
@[simp] theorem State.setFlags_ie (s : State) (z n h c : Bool) : (s.setFlags z n h c).ie = s.ie := rfl
@[simp] theorem State.setFlags_ifr (s : State) (z n h c : Bool) : (s.setFlags z n h c).ifr = s.ifr := rfl
@[simp] theorem State.setFlags_runState (s : State) (z n h c : Bool) : (s.setFlags z n h c).runState = s.runState := rfl
@[simp] theorem State.setFlags_haltBug (s : State) (z n h c : Bool) : (s.setFlags z n h c).haltBug = s.haltBug := rfl
@[simp] theorem State.setFlags_ppu (s : State) (z n h c : Bool) : (s.setFlags z n h c).ppu = s.ppu := rfl
@[simp] theorem State.setFlags_dma (s : State) (z n h c : Bool) : (s.setFlags z n h c).dma = s.dma := rfl
@[simp] theorem State.setFlags_mem (s : State) (z n h c : Bool) : (s.setFlags z n h c).mem = s.mem := rfl
@[simp] theorem State.setFlags_cartRamPresent (s : State) (z n h c : Bool) : (s.setFlags z n h c).cartRamPresent = s.cartRamPresent := rfl
@[simp] theorem State.setFlags_extRequests (s : State) (z n h c : Bool) : (s.setFlags z n h c).extRequests = s.extRequests := rfl
@[simp] theorem State.setFlags_cycles (s : State) (z n h c : Bool) : (s.setFlags z n h c).cycles = s.cycles := rfl
@[simp] theorem State.fZ_setFlags (s : State) (z n h c : Bool) : (s.setFlags z n h c).fZ = z := by
  show (flagByte z n h c).getLsbD 7 = z
  revert z n h c; decide

@[simp] theorem State.fN_setFlags (s : State) (z n h c : Bool) : (s.setFlags z n h c).fN = n := by
  show (flagByte z n h c).getLsbD 6 = n
  revert z n h c; decide

@[simp] theorem State.fH_setFlags (s : State) (z n h c : Bool) : (s.setFlags z n h c).fH = h := by
  show (flagByte z n h c).getLsbD 5 = h
  revert z n h c; decide

@[simp] theorem State.fC_setFlags (s : State) (z n h c : Bool) : (s.setFlags z n h c).fC = c := by
  show (flagByte z n h c).getLsbD 4 = c
  revert z n h c; decide

/-- The low nibble of a flag byte is zero (R28). -/
@[simp] theorem flagByte_low (z n h c : Bool) : flagByte z n h c &&& 0x0F#8 = 0#8 := by
  revert z n h c; decide

/-! ## `A` with the flags -/

@[simp] theorem setA_a (r : Byte) (z n h c : Bool) (s : State) : (setA r z n h c s).a = r := rfl
@[simp] theorem setA_f (r : Byte) (z n h c : Bool) (s : State) : (setA r z n h c s).f = flagByte z n h c := rfl
@[simp] theorem setA_b (r : Byte) (z n h c : Bool) (s : State) : (setA r z n h c s).b = s.b := rfl
@[simp] theorem setA_c (r : Byte) (z n h c : Bool) (s : State) : (setA r z n h c s).c = s.c := rfl
@[simp] theorem setA_d (r : Byte) (z n h c : Bool) (s : State) : (setA r z n h c s).d = s.d := rfl
@[simp] theorem setA_e (r : Byte) (z n h c : Bool) (s : State) : (setA r z n h c s).e = s.e := rfl
@[simp] theorem setA_h (r : Byte) (z n h c : Bool) (s : State) : (setA r z n h c s).h = s.h := rfl
@[simp] theorem setA_l (r : Byte) (z n h c : Bool) (s : State) : (setA r z n h c s).l = s.l := rfl
@[simp] theorem setA_sp (r : Byte) (z n h c : Bool) (s : State) : (setA r z n h c s).sp = s.sp := rfl
@[simp] theorem setA_pc (r : Byte) (z n h c : Bool) (s : State) : (setA r z n h c s).pc = s.pc := rfl
@[simp] theorem setA_ime (r : Byte) (z n h c : Bool) (s : State) : (setA r z n h c s).ime = s.ime := rfl
@[simp] theorem setA_imeDelay (r : Byte) (z n h c : Bool) (s : State) : (setA r z n h c s).imeDelay = s.imeDelay := rfl
@[simp] theorem setA_ie (r : Byte) (z n h c : Bool) (s : State) : (setA r z n h c s).ie = s.ie := rfl
@[simp] theorem setA_ifr (r : Byte) (z n h c : Bool) (s : State) : (setA r z n h c s).ifr = s.ifr := rfl
@[simp] theorem setA_runState (r : Byte) (z n h c : Bool) (s : State) : (setA r z n h c s).runState = s.runState := rfl
@[simp] theorem setA_haltBug (r : Byte) (z n h c : Bool) (s : State) : (setA r z n h c s).haltBug = s.haltBug := rfl
@[simp] theorem setA_ppu (r : Byte) (z n h c : Bool) (s : State) : (setA r z n h c s).ppu = s.ppu := rfl
@[simp] theorem setA_dma (r : Byte) (z n h c : Bool) (s : State) : (setA r z n h c s).dma = s.dma := rfl
@[simp] theorem setA_mem (r : Byte) (z n h c : Bool) (s : State) : (setA r z n h c s).mem = s.mem := rfl
@[simp] theorem setA_cartRamPresent (r : Byte) (z n h c : Bool) (s : State) : (setA r z n h c s).cartRamPresent = s.cartRamPresent := rfl
@[simp] theorem setA_extRequests (r : Byte) (z n h c : Bool) (s : State) : (setA r z n h c s).extRequests = s.extRequests := rfl
@[simp] theorem setA_cycles (r : Byte) (z n h c : Bool) (s : State) : (setA r z n h c s).cycles = s.cycles := rfl

/-! ## The end of an instruction -/

theorem done_eq (n : Nat) (s : State) : done n s = .next { s with cycles := n } := rfl

end Sys2Proof.Machine
end

