-- ==== Sys2Proof/Laws/Bus.lean ====
section
/-! SUPPORT. The bus: everything a CPU write can do, its frame, and what a read after it gives. -/

namespace Sys2Proof.Machine

/-! ## Reads -/

/-- What the CPU reads depends on these fields only. -/
theorem cpuRead_congr {s t : State} (hm : t.mem = s.mem) (hp : t.ppu = s.ppu) (hd : t.dma = s.dma) (he : t.ie = s.ie)
    (hi : t.ifr = s.ifr) (hc : t.cartRamPresent = s.cartRamPresent) (x : Word) : cpuRead t x = cpuRead s x := by
  cases s; cases t
  simp only at hm hp hd he hi hc
  subst hm hp hd he hi hc
  rfl

/-- Outside the I/O page, the PPU matters to a read through its two locks only. -/
theorem cpuRead_ppu_congr {s : State} {p : Ppu} {x : Word} (hv : p.vramLocked = s.ppu.vramLocked)
    (ho : p.oamLocked = s.ppu.oamLocked) (hio : readIo { s with ppu := p } x = readIo s x) :
    cpuRead { s with ppu := p } x = cpuRead s x := by
  unfold cpuRead regionRead
  show (if dmaBlocks s x then _ else _) = _
  rw [hio]
  simp only [hv, ho]

/-- The regions by address (R61). -/
theorem regionOf_toNat (a : Word) :
    (regionOf a = .rom ∧ a.toNat < 0x8000) ∨ (regionOf a = .vram ∧ 0x8000 ≤ a.toNat ∧ a.toNat < 0xA000) ∨
    (regionOf a = .cartRam ∧ 0xA000 ≤ a.toNat ∧ a.toNat < 0xC000) ∨
    (regionOf a = .wram ∧ 0xC000 ≤ a.toNat ∧ a.toNat < 0xE000) ∨
    (regionOf a = .echo ∧ 0xE000 ≤ a.toNat ∧ a.toNat < 0xFE00) ∨
    (regionOf a = .oam ∧ 0xFE00 ≤ a.toNat ∧ a.toNat < 0xFEA0) ∨
    (regionOf a = .unusable ∧ 0xFEA0 ≤ a.toNat ∧ a.toNat < 0xFF00) ∨
    (regionOf a = .io ∧ 0xFF00 ≤ a.toNat ∧ a.toNat < 0xFF80) ∨
    (regionOf a = .hram ∧ 0xFF80 ≤ a.toNat ∧ a.toNat < 0xFFFF) ∨ (regionOf a = .ie ∧ a.toNat = 0xFFFF) := by
  have := a.isLt
  unfold regionOf
  repeat' split
  all_goals simp only [reduceCtorEq, false_and, true_and, or_false, false_or]
  all_goals omega

/-- The cell behind an address: two addresses share one only through the echo (R74). -/
theorem cellOf_eq (a : Word) : cellOf a = if 0xE000 ≤ a.toNat ∧ a.toNat < 0xFE00 then a.toNat - 0x2000 else a.toNat := by
  unfold cellOf
  rcases regionOf_toNat a with h | h | h | h | h | h | h | h | h | h <;> simp only [h.1, reduceCtorEq, if_false, if_true] <;>
    split <;> omega

/-- An address of the page is a register's, or a plain cell's (R77). -/
theorem ioRegOf_cases (a : Word) :
    (ioRegOf a = .ifr ∧ a = 0xFF0F) ∨
    (ioRegOf a = .lcdc ∧ a = 0xFF40) ∨
    (ioRegOf a = .stat ∧ a = 0xFF41) ∨
    (ioRegOf a = .scy ∧ a = 0xFF42) ∨
    (ioRegOf a = .scx ∧ a = 0xFF43) ∨
    (ioRegOf a = .ly ∧ a = 0xFF44) ∨
    (ioRegOf a = .lyc ∧ a = 0xFF45) ∨
    (ioRegOf a = .dma ∧ a = 0xFF46) ∨
    (ioRegOf a = .bgp ∧ a = 0xFF47) ∨
    (ioRegOf a = .obp0 ∧ a = 0xFF48) ∨
    (ioRegOf a = .obp1 ∧ a = 0xFF49) ∨
    (ioRegOf a = .wy ∧ a = 0xFF4A) ∨
    (ioRegOf a = .wx ∧ a = 0xFF4B) ∨
    (ioRegOf a = .cell ∧ a ≠ 0xFF0F ∧ ¬ (0xFF40 ≤ a.toNat ∧ a.toNat ≤ 0xFF4B)) := by
  by_cases h0F : a = 0xFF0F
  · subst h0F; decide
  by_cases h40 : a = 0xFF40
  · subst h40; decide
  by_cases h41 : a = 0xFF41
  · subst h41; decide
  by_cases h42 : a = 0xFF42
  · subst h42; decide
  by_cases h43 : a = 0xFF43
  · subst h43; decide
  by_cases h44 : a = 0xFF44
  · subst h44; decide
  by_cases h45 : a = 0xFF45
  · subst h45; decide
  by_cases h46 : a = 0xFF46
  · subst h46; decide
  by_cases h47 : a = 0xFF47
  · subst h47; decide
  by_cases h48 : a = 0xFF48
  · subst h48; decide
  by_cases h49 : a = 0xFF49
  · subst h49; decide
  by_cases h4A : a = 0xFF4A
  · subst h4A; decide
  by_cases h4B : a = 0xFF4B
  · subst h4B; decide
  have ne : ∀ n : Word, a ≠ n → a.toNat ≠ n.toNat := fun n h e => h (BitVec.eq_of_toNat_eq e)
  have k40 : a.toNat ≠ 0xFF40 := ne _ h40
  have k41 : a.toNat ≠ 0xFF41 := ne _ h41
  have k42 : a.toNat ≠ 0xFF42 := ne _ h42
  have k43 : a.toNat ≠ 0xFF43 := ne _ h43
  have k44 : a.toNat ≠ 0xFF44 := ne _ h44
  have k45 : a.toNat ≠ 0xFF45 := ne _ h45
  have k46 : a.toNat ≠ 0xFF46 := ne _ h46
  have k47 : a.toNat ≠ 0xFF47 := ne _ h47
  have k48 : a.toNat ≠ 0xFF48 := ne _ h48
  have k49 : a.toNat ≠ 0xFF49 := ne _ h49
  have k4A : a.toNat ≠ 0xFF4A := ne _ h4A
  have k4B : a.toNat ≠ 0xFF4B := ne _ h4B
  have hcell : ioRegOf a = .cell := by simp only [ioRegOf, h0F, h40, h41, h42, h43, h44, h45, h46, h47, h48, h49, h4A, h4B, if_false]
  simp only [hcell, reduceCtorEq, false_and, true_and, false_or]
  exact ⟨h0F, by omega⟩

/-! ## What a write of the PPU's registers keeps -/

theorem Ppu.writeLcdc_fb (p : Ppu) (v : Byte) : (p.writeLcdc v).fb = p.fb := by
  unfold Ppu.writeLcdc; split <;> rfl

theorem Ppu.writeLcdc_lcdc (p : Ppu) (v : Byte) : (p.writeLcdc v).lcdc = v := by
  unfold Ppu.writeLcdc; split <;> rfl

theorem Ppu.writeLcdc_inv {p : Ppu} (h : p.Inv) (v : Byte) : (p.writeLcdc v).Inv := by
  unfold Ppu.writeLcdc
  split
  · rename_i hv
    obtain ⟨hd, hl, hon, hoff⟩ := h
    refine ⟨hd, hl, fun he => hon (hv.trans he), fun he => hoff (hv.trans he)⟩
  · refine ⟨(by decide : 0 < Config.dotsPerLine), (by decide : 0 < Config.linesPerFrame), fun he => ?_, fun he => ?_⟩
    · have hv : v.getLsbD 7 = true := he
      simp only [hv, if_true]
      exact ⟨by decide, Nat.zero_le _⟩
    · have hv : v.getLsbD 7 = false := he
      refine ⟨rfl, rfl, ?_, rfl, rfl⟩
      show (if v.getLsbD 7 = true then Mode.oamSearch else Mode.hblank) = .hblank
      rw [hv]; rfl

/-! ## Everything a CPU write can do -/

/-- The outcomes of a CPU write (R62 to R83): nothing; a byte in a cell above ROM; a PPU register; a transfer; `IF`;
`IE`. -/
theorem cpuWrite_cases (s : State) (a : Word) (v : Byte) (P : State → Prop) (none : P s)
    (cell : isCell (cellOf a) = true → 0x8000 ≤ cellOf a → P (storeCell s a v))
    (ppu : ∀ p : Ppu, isPpuRegister a = true → p.fb = s.ppu.fb → (s.ppu.Inv → p.Inv) →
      (a ≠ 0xFF40 → a ≠ 0xFF45 → ∀ x, x ≠ a → cpuRead { s with ppu := p } x = cpuRead s x) → P { s with ppu := p })
    (dma : a = 0xFF46 → P (dmaTrigger s v)) (ifr : a = 0xFF0F → P { s with ifr := v.setWidth 5 })
    (ie : a = 0xFFFF → P { s with ie := v }) : P (cpuWrite s a v) := by
  unfold cpuWrite
  split
  · exact none
  unfold regionWrite
  have hcell := cellOf_eq a
  have hlt := a.isLt
  rcases regionOf_toNat a with h | h | h | h | h | h | h | h | h | h <;> simp only [h.1]
  · exact none
  · split
    · exact none
    · exact cell (by simp [isCell]; split at hcell <;> omega) (by split at hcell <;> omega)
  · split
    · exact cell (by simp [isCell]; split at hcell <;> omega) (by split at hcell <;> omega)
    · exact none
  · exact cell (by simp [isCell]; split at hcell <;> omega) (by split at hcell <;> omega)
  · exact cell (by simp [isCell]; split at hcell <;> omega) (by split at hcell <;> omega)
  · split
    · exact none
    · exact cell (by simp [isCell]; split at hcell <;> omega) (by split at hcell <;> omega)
  · exact none
  · unfold writeIo
    rcases ioRegOf_cases a with g | g | g | g | g | g | g | g | g | g | g | g | g | g <;> simp only [g.1]
    · exact ifr g.2
    · exact ppu _ (by rw [g.2]; rfl) (Ppu.writeLcdc_fb _ _) (fun h => Ppu.writeLcdc_inv h v) (fun h => absurd g.2 h)
    · exact ppu _ (by rw [g.2]; rfl) rfl id (fun _ _ x hx => cpuRead_ppu_congr rfl rfl (by
        rw [g.2] at hx
        rcases ioRegOf_cases x with k | k | k | k | k | k | k | k | k | k | k | k | k | k <;>
          first | exact absurd k.2 hx | (simp only [readIo, k.1] <;> rfl)))
    · exact ppu _ (by rw [g.2]; rfl) rfl id (fun _ _ x hx => cpuRead_ppu_congr rfl rfl (by
        rw [g.2] at hx
        rcases ioRegOf_cases x with k | k | k | k | k | k | k | k | k | k | k | k | k | k <;>
          first | exact absurd k.2 hx | (simp only [readIo, k.1] <;> rfl)))
    · exact ppu _ (by rw [g.2]; rfl) rfl id (fun _ _ x hx => cpuRead_ppu_congr rfl rfl (by
        rw [g.2] at hx
        rcases ioRegOf_cases x with k | k | k | k | k | k | k | k | k | k | k | k | k | k <;>
          first | exact absurd k.2 hx | (simp only [readIo, k.1] <;> rfl)))
    · exact none
    · exact ppu _ (by rw [g.2]; rfl) rfl id (fun _ h => absurd g.2 h)
    · exact dma g.2
    · exact ppu _ (by rw [g.2]; rfl) rfl id (fun _ _ x hx => cpuRead_ppu_congr rfl rfl (by
        rw [g.2] at hx
        rcases ioRegOf_cases x with k | k | k | k | k | k | k | k | k | k | k | k | k | k <;>
          first | exact absurd k.2 hx | (simp only [readIo, k.1] <;> rfl)))
    · exact ppu _ (by rw [g.2]; rfl) rfl id (fun _ _ x hx => cpuRead_ppu_congr rfl rfl (by
        rw [g.2] at hx
        rcases ioRegOf_cases x with k | k | k | k | k | k | k | k | k | k | k | k | k | k <;>
          first | exact absurd k.2 hx | (simp only [readIo, k.1] <;> rfl)))
    · exact ppu _ (by rw [g.2]; rfl) rfl id (fun _ _ x hx => cpuRead_ppu_congr rfl rfl (by
        rw [g.2] at hx
        rcases ioRegOf_cases x with k | k | k | k | k | k | k | k | k | k | k | k | k | k <;>
          first | exact absurd k.2 hx | (simp only [readIo, k.1] <;> rfl)))
    · exact ppu _ (by rw [g.2]; rfl) rfl id (fun _ _ x hx => cpuRead_ppu_congr rfl rfl (by
        rw [g.2] at hx
        rcases ioRegOf_cases x with k | k | k | k | k | k | k | k | k | k | k | k | k | k <;>
          first | exact absurd k.2 hx | (simp only [readIo, k.1] <;> rfl)))
    · exact ppu _ (by rw [g.2]; rfl) rfl id (fun _ _ x hx => cpuRead_ppu_congr rfl rfl (by
        rw [g.2] at hx
        rcases ioRegOf_cases x with k | k | k | k | k | k | k | k | k | k | k | k | k | k <;>
          first | exact absurd k.2 hx | (simp only [readIo, k.1] <;> rfl)))
    · have hca : cellOf a = a.toNat := by rw [hcell, if_neg (by omega)]
      have h0F : a.toNat ≠ 0xFF0F := fun e => g.2.1 (BitVec.eq_of_toNat_eq e)
      exact cell (by simp [isCell, isIoRegister, hca]; omega) (by omega)
  · exact cell (by simp [isCell]; split at hcell <;> omega) (by split at hcell <;> omega)
  · exact ie (BitVec.eq_of_toNat_eq h.2)

/-! ## What a CPU write keeps -/

/-- A CPU write changes memory, the PPU, the sequencer, `IE` and `IF` at most. -/
theorem cpuWrite_keepsCpu (s : State) (a : Word) (v : Byte) : KeepsCpu s (cpuWrite s a v) :=
  cpuWrite_cases s a v (KeepsCpu s) rfl (fun _ _ => rfl) (fun _ _ _ _ _ => rfl) (fun _ => rfl) (fun _ => rfl)
    (fun _ => rfl)

@[simp] theorem cpuWrite_a (s : State) (a : Word) (v : Byte) : (cpuWrite s a v).a = s.a := by
  rw [show cpuWrite s a v = _ from cpuWrite_keepsCpu s a v]

@[simp] theorem cpuWrite_f (s : State) (a : Word) (v : Byte) : (cpuWrite s a v).f = s.f := by
  rw [show cpuWrite s a v = _ from cpuWrite_keepsCpu s a v]

@[simp] theorem cpuWrite_b (s : State) (a : Word) (v : Byte) : (cpuWrite s a v).b = s.b := by
  rw [show cpuWrite s a v = _ from cpuWrite_keepsCpu s a v]

@[simp] theorem cpuWrite_c (s : State) (a : Word) (v : Byte) : (cpuWrite s a v).c = s.c := by
  rw [show cpuWrite s a v = _ from cpuWrite_keepsCpu s a v]

@[simp] theorem cpuWrite_d (s : State) (a : Word) (v : Byte) : (cpuWrite s a v).d = s.d := by
  rw [show cpuWrite s a v = _ from cpuWrite_keepsCpu s a v]

@[simp] theorem cpuWrite_e (s : State) (a : Word) (v : Byte) : (cpuWrite s a v).e = s.e := by
  rw [show cpuWrite s a v = _ from cpuWrite_keepsCpu s a v]

@[simp] theorem cpuWrite_h (s : State) (a : Word) (v : Byte) : (cpuWrite s a v).h = s.h := by
  rw [show cpuWrite s a v = _ from cpuWrite_keepsCpu s a v]

@[simp] theorem cpuWrite_l (s : State) (a : Word) (v : Byte) : (cpuWrite s a v).l = s.l := by
  rw [show cpuWrite s a v = _ from cpuWrite_keepsCpu s a v]

@[simp] theorem cpuWrite_sp (s : State) (a : Word) (v : Byte) : (cpuWrite s a v).sp = s.sp := by
  rw [show cpuWrite s a v = _ from cpuWrite_keepsCpu s a v]

@[simp] theorem cpuWrite_pc (s : State) (a : Word) (v : Byte) : (cpuWrite s a v).pc = s.pc := by
  rw [show cpuWrite s a v = _ from cpuWrite_keepsCpu s a v]

@[simp] theorem cpuWrite_ime (s : State) (a : Word) (v : Byte) : (cpuWrite s a v).ime = s.ime := by
  rw [show cpuWrite s a v = _ from cpuWrite_keepsCpu s a v]

@[simp] theorem cpuWrite_imeDelay (s : State) (a : Word) (v : Byte) : (cpuWrite s a v).imeDelay = s.imeDelay := by
  rw [show cpuWrite s a v = _ from cpuWrite_keepsCpu s a v]

@[simp] theorem cpuWrite_runState (s : State) (a : Word) (v : Byte) : (cpuWrite s a v).runState = s.runState := by
  rw [show cpuWrite s a v = _ from cpuWrite_keepsCpu s a v]

@[simp] theorem cpuWrite_haltBug (s : State) (a : Word) (v : Byte) : (cpuWrite s a v).haltBug = s.haltBug := by
  rw [show cpuWrite s a v = _ from cpuWrite_keepsCpu s a v]

@[simp] theorem cpuWrite_cartRamPresent (s : State) (a : Word) (v : Byte) : (cpuWrite s a v).cartRamPresent = s.cartRamPresent := by
  rw [show cpuWrite s a v = _ from cpuWrite_keepsCpu s a v]

@[simp] theorem cpuWrite_extRequests (s : State) (a : Word) (v : Byte) : (cpuWrite s a v).extRequests = s.extRequests := by
  rw [show cpuWrite s a v = _ from cpuWrite_keepsCpu s a v]

@[simp] theorem cpuWrite_cycles (s : State) (a : Word) (v : Byte) : (cpuWrite s a v).cycles = s.cycles := by
  rw [show cpuWrite s a v = _ from cpuWrite_keepsCpu s a v]

@[simp] theorem cpuWrite_r8 (s : State) (a : Word) (v : Byte) (r : R8) : (cpuWrite s a v).r8 r = s.r8 r := by
  cases r <;> simp [State.r8]

@[simp] theorem cpuWrite_hl (s : State) (a : Word) (v : Byte) : (cpuWrite s a v).hl = s.hl := by simp [State.hl]

/-- A CPU write neither reads nor writes `SP`. -/
theorem cpuWrite_with_sp (s : State) (a : Word) (v : Byte) (w : Word) :
    cpuWrite { s with sp := w } a v = { cpuWrite s a v with sp := w } := by
  unfold cpuWrite regionWrite writeIo
  show (if dmaBlocks s a then _ else _) = _
  split
  · rfl
  · rcases regionOf_toNat a with h | h | h | h | h | h | h | h | h | h <;> simp only [h.1] <;> try rfl
    · split <;> rfl
    · split <;> rfl
    · split <;> rfl
    · rcases ioRegOf_cases a with g | g | g | g | g | g | g | g | g | g | g | g | g | g <;> simp only [g.1] <;> rfl

/-- The frame of a CPU write. -/
theorem cpuWrite_frame (s : State) (a : Word) (v : Byte) : StoreFrame [a] s (cpuWrite s a v) := by
  apply cpuWrite_cases s a v (StoreFrame [a] s)
  · exact ⟨fun _ _ => rfl, fun _ => rfl, fun _ => rfl, fun _ => rfl, fun _ => rfl, rfl, rfl, fun _ _ _ _ _ => rfl⟩
  · intro hc h
    refine ⟨fun k hk => Memory.read_write_other (by simpa using hk), fun _ => rfl, fun _ => rfl, fun _ => rfl,
      fun _ => rfl, rfl, rfl, fun _ _ _ x hx => ?_⟩
    have hx' : cellOf x ≠ cellOf a := by simpa using hx
    have hr : (storeCell s a v).mem.read (cellOf x) = s.mem.read (cellOf x) := Memory.read_write_other hx'
    unfold cpuRead regionRead
    show (if dmaBlocks s x then _ else _) = _
    simp only [hr]
    congr 1
    rcases regionOf_toNat x with k | k | k | k | k | k | k | k | k | k <;> simp only [k.1] <;> (try rfl)
    unfold readIo
    rcases ioRegOf_cases x with g | g | g | g | g | g | g | g | g | g | g | g | g | g <;> simp only [g.1] <;> (try rfl)
    have : cellOf x = x.toNat := by rw [cellOf_eq]; split <;> omega
    rw [← this]; exact hr
  · intro p ha hfb _ hread
    refine ⟨fun _ _ => rfl, fun _ => rfl, fun _ => rfl, fun _ => rfl, fun h => ?_, hfb, rfl, fun h40 h45 _ x hx => ?_⟩
    · simp [ha] at h
    · exact hread (fun e => h40 (by simp [e])) (fun e => h45 (by simp [e])) x (fun e => hx (by simp [e]))
  · intro ha
    refine ⟨fun _ _ => rfl, fun _ => rfl, fun _ => rfl, fun h => absurd (by simp [ha]) h, fun _ => rfl, rfl, rfl,
      fun _ _ h => absurd (by simp [ha]) h⟩
  · intro ha
    refine ⟨fun _ _ => rfl, fun _ => rfl, fun h => absurd (by simp [ha]) h, fun _ => rfl, fun _ => rfl, rfl, rfl,
      fun _ _ _ x hx => ?_⟩
    have hx' : x ≠ 0xFF0F := fun e => hx (by simp [e, ha])
    unfold cpuRead regionRead
    show (if dmaBlocks s x then _ else _) = _
    congr 1
    rcases regionOf_toNat x with k | k | k | k | k | k | k | k | k | k <;> simp only [k.1]
    unfold readIo
    rcases ioRegOf_cases x with g | g | g | g | g | g | g | g | g | g | g | g | g | g <;> simp only [g.1]
    exact absurd g.2 hx'
  · intro ha
    refine ⟨fun _ _ => rfl, fun h => absurd (by simp [ha]) h, fun _ => rfl, fun _ => rfl, fun _ => rfl, rfl, rfl,
      fun _ _ _ x hx => ?_⟩
    have hx' : x ≠ 0xFFFF := fun e => hx (by simp [e, ha])
    unfold cpuRead regionRead
    show (if dmaBlocks s x then _ else _) = _
    congr 1
    rcases regionOf_toNat x with k | k | k | k | k | k | k | k | k | k <;> simp only [k.1] <;> (try rfl)
    exact absurd (BitVec.eq_of_toNat_eq k.2) hx'

/-- A byte stored where it can be is read back. -/
theorem cpuRead_cpuWrite_same {s : State} (hm : s.mem.wf) {a : Word} (ha : s.storable a = true) (v : Byte) :
    cpuRead (cpuWrite s a v) a = v := by
  have hcell : (storeCell s a v).mem.read (cellOf a) = v := Memory.read_write_same hm _ _
  unfold State.storable at ha
  rw [Bool.and_eq_true, Bool.not_eq_true'] at ha
  obtain ⟨hdma, hreg⟩ := ha
  have hw : cpuWrite s a v = regionWrite s a v := by simp only [cpuWrite, hdma]; rfl
  have hd' : dmaBlocks (storeCell s a v) a = false := hdma
  have hx : 0xFF00 ≤ a.toNat → ∀ t, cpuRead t a = regionRead t a := fun hle t => by
    have : ¬ a.toNat < 0xFF00 := by omega
    simp [cpuRead, dmaBlocks, this]
  have hst : cpuRead (storeCell s a v) a = regionRead (storeCell s a v) a := by simp only [cpuRead, hd']; rfl
  rw [hw]
  rcases regionOf_toNat a with h | h | h | h | h | h | h | h | h | h <;> simp only [h.1] at hreg <;>
    simp only [regionWrite, h.1]
  · simp at hreg
  · rw [Bool.not_eq_true'] at hreg
    simp only [hreg, Bool.false_eq_true, if_false]
    rw [hst]; simp only [regionRead, h.1]
    show (if s.ppu.vramLocked = true then _ else _) = v
    rw [hreg]; exact hcell
  · simp only [hreg, if_true]
    rw [hst]; simp only [regionRead, h.1]
    show (if s.cartRamPresent = true then _ else _) = v
    rw [if_pos hreg]; exact hcell
  · rw [hst]; simp only [regionRead, h.1]; exact hcell
  · rw [hst]; simp only [regionRead, h.1]; exact hcell
  · rw [Bool.not_eq_true'] at hreg
    simp only [hreg, Bool.false_eq_true, if_false]
    rw [hst]; simp only [regionRead, h.1]
    show (if s.ppu.oamLocked = true then _ else _) = v
    rw [hreg]; exact hcell
  · simp at hreg
  · rw [hx h.2.1]
    simp only [regionRead, h.1, readIo, writeIo]
    rcases ioRegOf_cases a with g | g | g | g | g | g | g | g | g | g | g | g | g | g <;> simp only [g.1] at hreg ⊢ <;>
      try first | rfl | exact Ppu.writeLcdc_lcdc _ _ | (simp at hreg; done)
    have hca : cellOf a = a.toNat := by rw [cellOf_eq, if_neg (by omega)]
    rw [← hca]; exact hcell
  · rw [hst]; simp only [regionRead, h.1]; exact hcell
  · rw [hx (by omega)]
    simp only [regionRead, h.1]

/-- A CPU write keeps the invariant. -/
theorem cpuWrite_inv {s : State} (h : s.Inv) (a : Word) (v : Byte) : (cpuWrite s a v).Inv := by
  obtain ⟨hf, hd, hi, hp, hdma, hw, hb⟩ := h
  apply cpuWrite_cases s a v State.Inv
  · exact ⟨hf, hd, hi, hp, hdma, hw, hb⟩
  · exact fun hc _ => ⟨hf, hd, hi, hp, hdma, Memory.write_wf hw _ _, Memory.write_backed hb _ hc⟩
  · exact fun p _ _ hinv _ => ⟨hf, hd, hi, hinv hp, hdma, hw, hb⟩
  · exact fun _ => ⟨hf, hd, hi, hp, ⟨(by decide : 0 < Config.dmaBytes), (by decide : 0 < Config.machineCycle), nofun⟩, hw, hb⟩
  · exact fun _ => ⟨hf, hd, hi, hp, hdma, hw, hb⟩
  · exact fun _ => ⟨hf, hd, hi, hp, hdma, hw, hb⟩

/-- A CPU write never changes ROM (R70). -/
theorem cpuWrite_rom (s : State) (a : Word) (v : Byte) {k : Nat} (hk : k < 0x8000) :
    (cpuWrite s a v).mem.read k = s.mem.read k := by
  apply cpuWrite_cases s a v (fun t => t.mem.read k = s.mem.read k)
  · rfl
  · exact fun _ h => Memory.read_write_other (by omega)
  · exact fun _ _ _ _ _ => rfl
  · exact fun _ => rfl
  · exact fun _ => rfl
  · exact fun _ => rfl

/-! ## The I/O page -/

/-- A read of the I/O page, transfer or not (R64, R77). -/
theorem cpuRead_io (s : State) {a : Word} (h : 0xFF00 ≤ a.toNat) (h2 : a.toNat < 0xFF80) : cpuRead s a = readIo s a := by
  have r : regionOf a = .io := by
    rcases regionOf_toNat a with g | g | g | g | g | g | g | g | g | g <;> first | exact g.1 | omega
  have hb : dmaBlocks s a = false := by simp [dmaBlocks]; omega
  simp only [cpuRead, hb, regionRead, r]; rfl

/-- A write of the I/O page, transfer or not (R64, R77). -/
theorem cpuWrite_io (s : State) {a : Word} (v : Byte) (h : 0xFF00 ≤ a.toNat) (h2 : a.toNat < 0xFF80) :
    cpuWrite s a v = writeIo s a v := by
  have r : regionOf a = .io := by
    rcases regionOf_toNat a with g | g | g | g | g | g | g | g | g | g <;> first | exact g.1 | omega
  have hb : dmaBlocks s a = false := by simp [dmaBlocks]; omega
  simp only [cpuWrite, hb, regionWrite, r]; rfl

end Sys2Proof.Machine
end

