-- ==== Sys2Proof/Laws/Forms.lean ====
section
/-! SUPPORT. The forms an instruction's effect takes (`StoresByte`, `WritesR8Flags` and the others of the Safety file): each
from the one equation that says what the instruction's meaning is. -/

namespace Sys2Proof.Machine

/-- A store's frame holds of any state that agrees with the stored one on all the bus can reach. -/
theorem StoreFrame.of_keeps {as : List Word} {s u t : State} (h : StoreFrame as s u) (hm : t.mem = u.mem)
    (hp : t.ppu = u.ppu) (hd : t.dma = u.dma) (he : t.ie = u.ie) (hi : t.ifr = u.ifr)
    (hc : t.cartRamPresent = u.cartRamPresent) : StoreFrame as s t := by
  obtain ⟨h1, h2, h3, h4, h5, h6, h7, h8⟩ := h
  refine ⟨fun k hk => hm ▸ h1 k hk, fun h => he ▸ h2 h, fun h => hi ▸ h3 h, fun h => hd ▸ h4 h, fun h => hp ▸ h5 h,
    hp ▸ h6, hc ▸ h7, fun a b c x hx => (cpuRead_congr hm hp hd he hi hc x).trans (h8 a b c x hx)⟩

/-- The frame of one store after another. -/
theorem StoreFrame.append {as bs : List Word} {s u t : State} (h : StoreFrame as s u) (g : StoreFrame bs u t) :
    StoreFrame (as ++ bs) s t := by
  obtain ⟨h1, h2, h3, h4, h5, h6, h7, h8⟩ := h
  obtain ⟨g1, g2, g3, g4, g5, g6, g7, g8⟩ := g
  simp only [StoreFrame, List.map_append, List.mem_append, not_or, or_imp, forall_and]
  refine ⟨fun k hk => (g1 k hk.2).trans (h1 k hk.1), fun h => (g2 h.2).trans (h2 h.1), fun h => (g3 h.2).trans (h3 h.1),
    fun h => (g4 h.2).trans (h4 h.1), fun h => (g5 h.2).trans (h5 h.1), g6.trans h6, g7.trans h7,
    fun a b c x hx => (g8 a.2 b.2 c.2 x hx.2).trans (h8 a.1 b.1 c.1 x hx.1)⟩

/-- A plain address takes a store. -/
theorem State.storable_of_plain {s : State} {a : Word} (h : s.plain a = true) : s.storable a = true := by
  unfold State.plain at h; unfold State.storable
  rw [Bool.and_eq_true] at h ⊢
  refine ⟨h.1, ?_⟩
  rcases regionOf_toNat a with g | g | g | g | g | g | g | g | g | g <;> simp [g.1] at h ⊢

/-- A write of a plain address stores the byte and nothing else. -/
theorem cpuWrite_plain {s : State} {a : Word} (h : s.plain a = true) (v : Byte) : cpuWrite s a v = storeCell s a v := by
  unfold State.plain at h
  rw [Bool.and_eq_true, Bool.not_eq_true'] at h
  obtain ⟨h1, h2⟩ := h
  simp only [cpuWrite, h1, regionWrite]
  rcases regionOf_toNat a with g | g | g | g | g | g | g | g | g | g <;> simp [g.1] at h2 ⊢

/-- A read of a plain address gives its cell. -/
theorem cpuRead_plain {s : State} {a : Word} (h : s.plain a = true) : cpuRead s a = s.mem.read (cellOf a) := by
  unfold State.plain at h
  rw [Bool.and_eq_true, Bool.not_eq_true'] at h
  obtain ⟨h1, h2⟩ := h
  simp only [cpuRead, h1, regionRead]
  rcases regionOf_toNat a with g | g | g | g | g | g | g | g | g | g <;> simp [g.1] at h2 ⊢

/-- An instruction that stores one byte and then changes registers only. -/
theorem storesByte_of {i : Instr} {s : State} {a : Word} {v : Byte} {after : State → State}
    (h : exec i s = .next (after (cpuWrite s a v)))
    (ha : ∀ u, (after u).mem = u.mem ∧ (after u).ppu = u.ppu ∧ (after u).dma = u.dma ∧ (after u).ie = u.ie ∧
      (after u).ifr = u.ifr ∧ (after u).cartRamPresent = u.cartRamPresent) : StoresByte i s a v after := by
  refine ⟨_, h, rfl, cpuWrite_keepsCpu _ _ _, ?_, fun hm hs => ?_⟩
  · obtain ⟨a1, a2, a3, a4, a5, a6⟩ := ha (cpuWrite s a v)
    exact (cpuWrite_frame s a v).of_keeps a1 a2 a3 a4 a5 a6
  · obtain ⟨a1, a2, a3, a4, a5, a6⟩ := ha (cpuWrite s a v)
    rw [cpuRead_congr a1 a2 a3 a4 a5 a6, cpuRead_cpuWrite_same hm hs]

/-- Two changes that keep the CPU's registers keep them together. -/
theorem KeepsCpu.trans {s t u : State} (h : KeepsCpu s t) (g : KeepsCpu t u) : KeepsCpu s u := by
  unfold KeepsCpu at *; rw [g, h]

/-- A store to a plain address leaves the plain addresses plain. -/
theorem plain_cpuWrite {s : State} {a b : Word} (h : s.plain a = true) (v : Byte) (hb : s.plain b = true) :
  (cpuWrite s a v).plain b = true := by
  rw [cpuWrite_plain h]; exact hb

/-- An instruction that stores two bytes and then changes registers only. -/
theorem storesTwo_of {i : Instr} {s : State} {a1 : Word} {v1 : Byte} {a2 : Word} {v2 : Byte} {after : State → State}
    (h : exec i s = .next (after (cpuWrite (cpuWrite s a1 v1) a2 v2)))
    (ha : ∀ u, (after u).mem = u.mem ∧ (after u).ppu = u.ppu ∧ (after u).dma = u.dma ∧ (after u).ie = u.ie ∧
      (after u).ifr = u.ifr ∧ (after u).cartRamPresent = u.cartRamPresent) : StoresTwo i s a1 v1 a2 v2 after := by
  refine ⟨_, h, rfl, (cpuWrite_keepsCpu _ _ _).trans (cpuWrite_keepsCpu _ _ _), ?_, fun hm hs1 hs2 hne => ?_⟩
  · obtain ⟨b1, b2, b3, b4, b5, b6⟩ := ha (cpuWrite (cpuWrite s a1 v1) a2 v2)
    exact ((cpuWrite_frame s a1 v1).append (cpuWrite_frame _ a2 v2)).of_keeps b1 b2 b3 b4 b5 b6
  · obtain ⟨b1, b2, b3, b4, b5, b6⟩ := ha (cpuWrite (cpuWrite s a1 v1) a2 v2)
    rw [cpuRead_congr b1 b2 b3 b4 b5 b6, cpuRead_congr b1 b2 b3 b4 b5 b6]
    have hp2 := plain_cpuWrite hs1 v1 hs2
    have hp1 := plain_cpuWrite hs1 v1 hs1
    have hm' : (cpuWrite s a1 v1).mem.wf := by rw [cpuWrite_plain hs1]; exact Memory.write_wf hm _ _
    refine ⟨?_, cpuRead_cpuWrite_same hm' (State.storable_of_plain hp2) v2⟩
    rw [cpuRead_plain (plain_cpuWrite hp2 _ hp1), cpuWrite_plain hp2]
    rw [show (storeCell (cpuWrite s a1 v1) a2 v2).mem.read (cellOf a1) = (cpuWrite s a1 v1).mem.read (cellOf a1) from
      Memory.read_write_other hne, ← cpuRead_plain hp1]
    exact cpuRead_cpuWrite_same hm (State.storable_of_plain hs1) v1

/-- An instruction that writes one register. -/
theorem writesR8_of {i : Instr} {s : State} {r : R8} {v : Byte} {n : Nat} (h : exec i s = done n (s.setR8 r v)) :
    WritesR8 i s r v n := by
  refine ⟨_, h, ?_, fun q hq => ?_, fun x => ?_, ?_⟩
  · cases r <;> rfl
  · cases r <;> cases q <;> first | exact absurd rfl hq | rfl
  · exact cpuRead_congr (by simp) (by simp) (by simp) (by simp) (by simp) (by simp) x
  · cases r <;> rfl

/-- An instruction that writes one pair. -/
theorem writesR16_of {i : Instr} {s : State} {r : R16} {v : Word} {n : Nat} (h : exec i s = done n (s.setR16 r v)) :
    WritesR16 i s r v n := by
  refine ⟨_, h, ?_, fun q hq => ?_, fun x => ?_, ?_⟩
  · exact (by cases r <;> rfl : _ = (s.setR16 r v).r16 r).trans (by rw [State.r16_setR16, if_pos rfl])
  · cases r <;> cases q <;> first | exact absurd rfl hq | rfl
  · exact cpuRead_congr (by simp) (by simp) (by simp) (by simp) (by simp) (by simp) x
  · cases r <;> rfl

/-- The flags after a flag update. -/
theorem flagsAre_setFlags (s : State) (z n h c : Bool) (k : Nat) : FlagsAre { s.setFlags z n h c with cycles := k } z n h c :=
  ⟨State.fZ_setFlags s z n h c, State.fN_setFlags s z n h c, State.fH_setFlags s z n h c, State.fC_setFlags s z n h c,
    flagByte_low z n h c⟩

/-- An instruction that writes one register and the flags. -/
theorem writesR8Flags_of {i : Instr} {s : State} {r : R8} {v : Byte} {z n h c : Bool} {k : Nat}
    (he : exec i s = done k ((s.setR8 r v).setFlags z n h c)) : WritesR8Flags i s r v z n h c k := by
  refine ⟨_, he, ?_, fun q hq => ?_, flagsAre_setFlags _ _ _ _ _ _, fun x => ?_, ?_⟩
  · have : ((s.setR8 r v).setFlags z n h c).r8 r = (s.setR8 r v).r8 r := by cases r <;> rfl
    have := State.r8_setR8 s r r v; cases r <;> rfl
  · cases r <;> cases q <;> first | exact absurd rfl hq | rfl
  · exact cpuRead_congr (by simp) (by simp) (by simp) (by simp) (by simp) (by simp) x
  · cases r <;> rfl

/-- An instruction that writes the flags. -/
theorem writesFlags_of {i : Instr} {s : State} {z n h c : Bool} {k : Nat}
    (he : exec i s = done k (s.setFlags z n h c)) : WritesFlags i s z n h c k := by
  exact ⟨_, he, flagsAre_setFlags _ _ _ _ _ _, fun x => cpuRead_congr rfl rfl rfl rfl rfl rfl x, rfl⟩

/-- The high-page address of an offset as a sum (R110). -/
theorem highPage_eq (n : Byte) : highPage n = 0xFF00 + n.setWidth 16 := by
  apply BitVec.eq_of_toNat_eq
  have := n.isLt
  simp [highPage, wordOf_toNat, BitVec.toNat_add]
  omega

end Sys2Proof.Machine
end

