-- ==== Sys2Proof/Laws/Dma.lean ====
section
/-! SUPPORT. The DMA sequencer's tick: what it changes, and that it keeps the invariant. -/

namespace Sys2Proof.Machine

/-- A tick changes object-attribute memory and the sequencer, and nothing else (R385, R392). -/
theorem dmaTick_keeps (n : Nat) (s : State) :
    dmaTick n s = { s with mem := (dmaTick n s).mem, dma := (dmaTick n s).dma } := by
  induction n generalizing s with
  | zero => rfl
  | succ n ih =>
    simp only [dmaTick]
    split
    · rw [ih]
      unfold dmaCycle dmaCopyByte
      dsimp only
      repeat' split
      all_goals rfl
    · rfl

/-- An idle sequencer does nothing (R384). -/
theorem dmaTick_idle {s : State} (h : s.dma.active = false) (n : Nat) : dmaTick n s = s := by
  cases n with
  | zero => rfl
  | succ n => simp only [dmaTick, h]; rfl

/-- The byte that is copied next (R385). -/
abbrev nextDmaByte (s : State) : Byte := dmaRead s (s.dma.src.toNat * 256 + s.dma.offset)

/-- Three cycles of four only count (R384). -/
theorem dmaCycle_wait {s : State} (h : s.dma.sub ≠ 3) :
    dmaCycle s = { s with dma := { s.dma with sub := s.dma.sub + 1 } } := by
  unfold dmaCycle
  exact if_neg (show ¬ s.dma.sub + 1 = 4 by omega)

/-- The fourth cycle copies a byte (R384, R385). -/
theorem dmaCycle_copy {s : State} (h : s.dma.sub = 3) (ho : s.dma.offset ≠ 159) :
    dmaCycle s =
      { s with
        mem := s.mem.write (0xFE00 + s.dma.offset) (nextDmaByte s)
        dma := { s.dma with offset := s.dma.offset + 1, sub := 0 } } := by
  unfold dmaCycle
  rw [if_pos (show s.dma.sub + 1 = Config.machineCycle by rw [h]; rfl)]
  unfold dmaCopyByte
  exact if_neg (show ¬ s.dma.offset + 1 = 160 by omega)

/-- The last byte ends the transfer (R387). -/
theorem dmaCycle_last {s : State} (h : s.dma.sub = 3) (ho : s.dma.offset = 159) :
    dmaCycle s =
      { s with
        mem := s.mem.write (0xFE00 + s.dma.offset) (nextDmaByte s)
        dma := { active := false, src := s.dma.src, offset := 0, sub := 0 } } := by
  unfold dmaCycle
  rw [if_pos (show s.dma.sub + 1 = Config.machineCycle by rw [h]; rfl)]
  unfold dmaCopyByte
  exact if_pos (show s.dma.offset + 1 = 160 by omega)

/-- A cycle of an active transfer keeps the invariant. -/
theorem dmaCycle_inv {s : State} (h : s.Inv) (ha : s.dma.active = true) : (dmaCycle s).Inv := by
  obtain ⟨hf, hd, hi, hp, ⟨ho, hsub, -⟩, hw, hb⟩ := h
  simp only [Config.dmaBytes, Config.machineCycle] at ho hsub
  have hcell : isCell (0xFE00 + s.dma.offset) = true := by simp [isCell]; omega
  by_cases h3 : s.dma.sub = 3
  · by_cases h159 : s.dma.offset = 159
    · rw [dmaCycle_last h3 h159]
      exact ⟨hf, hd, hi, hp, ⟨(by decide : 0 < Config.dmaBytes), (by decide : 0 < Config.machineCycle), fun _ => ⟨rfl, rfl⟩⟩,
        Memory.write_wf hw _ _, Memory.write_backed hb _ hcell⟩
    · rw [dmaCycle_copy h3 h159]
      exact ⟨hf, hd, hi, hp, ⟨(by omega : s.dma.offset + 1 < 160), (by decide : 0 < Config.machineCycle),
        fun hn => absurd (hn.symm.trans ha) (by decide)⟩, Memory.write_wf hw _ _, Memory.write_backed hb _ hcell⟩
  · rw [dmaCycle_wait h3]
    exact ⟨hf, hd, hi, hp, ⟨ho, (by omega : s.dma.sub + 1 < 4), fun hn => absurd (hn.symm.trans ha) (by decide)⟩, hw, hb⟩

/-- A tick keeps the invariant. -/
theorem dmaTick_inv {s : State} (h : s.Inv) (n : Nat) : (dmaTick n s).Inv := by
  induction n generalizing s with
  | zero => exact h
  | succ n ih =>
    simp only [dmaTick]
    split
    · exact ih (dmaCycle_inv h ‹_›)
    · exact h

/-- A tick never changes a cell below object-attribute memory. -/
theorem dmaTick_read_below (n : Nat) (s : State) {k : Nat} (hk : k < 0xFE00) :
    (dmaTick n s).mem.read k = s.mem.read k := by
  induction n generalizing s with
  | zero => rfl
  | succ n ih =>
    simp only [dmaTick]
    split
    · rw [ih]
      by_cases h3 : s.dma.sub = 3
      · by_cases h159 : s.dma.offset = 159
        · rw [dmaCycle_last h3 h159]; exact Memory.read_write_other (by omega)
        · rw [dmaCycle_copy h3 h159]; exact Memory.read_write_other (by omega)
      · rw [dmaCycle_wait h3]
    · rfl

/-- A cycle of an active transfer keeps the sequencer's own invariant, and changes no cell but object-attribute memory's. -/
theorem dmaCycle_outside {s : State} (h : s.dma.Inv) (ha : s.dma.active = true) :
    (dmaCycle s).dma.Inv ∧
      ∀ k, ¬ (0xFE00 ≤ k ∧ k < 0xFEA0) → (dmaCycle s).mem.read k = s.mem.read k := by
  obtain ⟨ho, hsub, -⟩ := h
  simp only [Config.dmaBytes, Config.machineCycle] at ho hsub
  by_cases h3 : s.dma.sub = 3
  · by_cases h159 : s.dma.offset = 159
    · rw [dmaCycle_last h3 h159]
      exact ⟨⟨(by decide : 0 < Config.dmaBytes), (by decide : 0 < Config.machineCycle), fun _ => ⟨rfl, rfl⟩⟩,
        fun k hk => Memory.read_write_other (by omega)⟩
    · rw [dmaCycle_copy h3 h159]
      exact ⟨⟨(by omega : s.dma.offset + 1 < 160), (by decide : 0 < Config.machineCycle),
        fun hn => absurd (hn.symm.trans ha) (by decide)⟩, fun k hk => Memory.read_write_other (by omega)⟩
  · rw [dmaCycle_wait h3]
    exact ⟨⟨ho, (by omega : s.dma.sub + 1 < 4), fun hn => absurd (hn.symm.trans ha) (by decide)⟩, fun _ _ => rfl⟩

/-- A tick of a sequencer in range changes no cell but object-attribute memory's (R385). -/
theorem dmaTick_outside (n : Nat) {s : State} (h : s.dma.Inv) {k : Nat} (hk : ¬ (0xFE00 ≤ k ∧ k < 0xFEA0)) :
    (dmaTick n s).mem.read k = s.mem.read k := by
  induction n generalizing s with
  | zero => rfl
  | succ n ih =>
    simp only [dmaTick]
    split
    · have hc := dmaCycle_outside h ‹_›
      rw [ih hc.1, hc.2 k hk]
    · rfl

/-- A tick of `m + n` cycles is a tick of `m` and then one of `n` (R384). -/
theorem dmaTick_add (m n : Nat) (s : State) : dmaTick (m + n) s = dmaTick n (dmaTick m s) := by
  induction m generalizing s with
  | zero => simp [dmaTick]
  | succ m ih =>
    rw [show m + 1 + n = (m + n) + 1 by omega]
    simp only [dmaTick]
    split
    · exact ih _
    · exact (dmaTick_idle (by simp_all) n).symm

/-- What a transfer reads depends on the cells below object-attribute memory only (R386). -/
theorem dmaRead_congr {s t : State} (hm : ∀ k, k < 0xFE00 → t.mem.read k = s.mem.read k)
    (hc : t.cartRamPresent = s.cartRamPresent) {k : Nat} (hk : k < 65536) : dmaRead t k = dmaRead s k := by
  show (if _ ∧ _ ∧ t.cartRamPresent = false then _ else t.mem.read (if 0xE000 ≤ k then k - 0x2000 else k)) =
    (if _ then _ else s.mem.read (if 0xE000 ≤ k then k - 0x2000 else k))
  rw [hc, hm _ (by split <;> omega)]

end Sys2Proof.Machine
end

