-- ==== Sys2Proof/Laws/Ppu.lean ====
section
/-! SUPPORT. The PPU's dot and tick: what they change, when they render, and that they keep the PPU's invariant. -/

namespace Sys2Proof.Machine

/-- A dot changes the counters, the mode, the STAT line and the renderer's two outputs, and no register that a program
writes. -/
theorem ppuDot_keeps (p : Ppu) (mem : Memory) :
    (ppuDot p mem).1 =
      { p with
        dot := (ppuDot p mem).1.dot
        ly := (ppuDot p mem).1.ly
        mode := (ppuDot p mem).1.mode
        statLine := (ppuDot p mem).1.statLine
        winLine := (ppuDot p mem).1.winLine
        fb := (ppuDot p mem).1.fb } := by
  unfold ppuDot
  split
  · unfold Ppu.enterMode Ppu.advance renderScanline
    dsimp only
    repeat' split
    all_goals rfl
  · rfl

theorem ppuDot_lcdc (p : Ppu) (mem : Memory) : (ppuDot p mem).1.lcdc = p.lcdc := by rw [ppuDot_keeps]

theorem ppuDot_lcdOn (p : Ppu) (mem : Memory) : (ppuDot p mem).1.lcdOn = p.lcdOn :=
  congrArg (·.getLsbD 7) (ppuDot_lcdc p mem)

/-- A stopped PPU does nothing (R317). -/
theorem ppuDot_off {p : Ppu} (h : p.lcdOn = false) (mem : Memory) : ppuDot p mem = (p, 0) := by
  unfold ppuDot
  rw [h]; rfl

/-- The counters after a dot (R311). -/
theorem ppuDot_counters {p : Ppu} (h : p.lcdOn = true) (mem : Memory) :
    (ppuDot p mem).1.dot = p.advance.dot ∧ (ppuDot p mem).1.ly = p.advance.ly ∧
      (ppuDot p mem).1.mode = modeOf p.advance.ly p.advance.dot := by
  unfold ppuDot Ppu.enterMode renderScanline
  rw [if_pos h]
  dsimp only
  split
  · rename_i hm
    exact ⟨rfl, rfl, hm.symm⟩
  · split
    · exact ⟨rfl, rfl, rfl⟩
    · exact ⟨rfl, rfl, rfl⟩

theorem Ppu.advance_mode (p : Ppu) : p.advance.mode = p.mode := by
  unfold Ppu.advance; split
  · split <;> rfl
  · rfl

theorem Ppu.advance_fb (p : Ppu) : p.advance.fb = p.fb := by
  unfold Ppu.advance; split
  · split <;> rfl
  · rfl

/-- The renderer's two outputs after a dot: they change by `RenderScanline` on the entry to pixel transfer, and by nothing
else but the frame's wrap (R311, R350, R356). -/
theorem ppuDot_rendered {p : Ppu} (h : p.lcdOn = true) (mem : Memory) :
    if modeOf p.advance.ly p.advance.dot = .pixelTransfer ∧ p.mode ≠ .pixelTransfer then
      (ppuDot p mem).1.fb = (renderScanline { p.advance with mode := .pixelTransfer } mem p.advance.ly).fb ∧
        (ppuDot p mem).1.winLine =
          (renderScanline { p.advance with mode := .pixelTransfer } mem p.advance.ly).winLine
    else (ppuDot p mem).1.fb = p.fb ∧ (ppuDot p mem).1.winLine = p.advance.winLine := by
  have hm := Ppu.advance_mode p
  have hf := Ppu.advance_fb p
  unfold ppuDot Ppu.enterMode
  rw [if_pos h]
  dsimp only
  rw [hm]
  by_cases hpx : modeOf p.advance.ly p.advance.dot = .pixelTransfer
  · by_cases hp : p.mode = .pixelTransfer
    · simp [hpx, hp, hf]
    · simp [hpx, hp, Ne.symm hp]
  · simp only [hpx, false_and, if_false]
    split
    · exact ⟨hf, rfl⟩
    · exact ⟨hf, rfl⟩

theorem renderScanline_winLine (p : Ppu) (mem : Memory) (ly : Nat) :
    p.winLine ≤ (renderScanline p mem ly).winLine ∧ (renderScanline p mem ly).winLine ≤ p.winLine + 1 := by
  unfold renderScanline; dsimp only; split <;> omega

theorem modeOf_cases (ly dot : Nat) :
    (modeOf ly dot = .vblank ∧ 144 ≤ ly) ∨ (modeOf ly dot = .oamSearch ∧ ly < 144 ∧ dot < 80) ∨
      (modeOf ly dot = .pixelTransfer ∧ ly < 144 ∧ 80 ≤ dot ∧ dot < 252) ∨
      (modeOf ly dot = .hblank ∧ ly < 144 ∧ 252 ≤ dot) := by
  unfold modeOf
  simp only [Config.visibleLines, Config.mode2Dots, Config.mode3Dots]
  by_cases h1 : 144 ≤ ly
  · simp [h1]
  · by_cases h2 : dot < 80
    · simp [h1, h2]; omega
    · by_cases h3 : dot < 252
      · simp [h1, h2, h3]; omega
      · simp [h1, h2, h3]; omega

/-- The counters of the next dot (R311): the frame wraps, the line ends, or the line goes on. -/
theorem Ppu.advance_cases {p : Ppu} (hd : p.dot < 456) (hl : p.ly < 154) :
    (p.dot = 455 ∧ p.ly = 153 ∧ p.advance.dot = 0 ∧ p.advance.ly = 0 ∧ p.advance.winLine = 0) ∨
      (p.dot = 455 ∧ p.ly < 153 ∧ p.advance.dot = 0 ∧ p.advance.ly = p.ly + 1 ∧ p.advance.winLine = p.winLine) ∨
      (p.dot < 455 ∧ p.advance.dot = p.dot + 1 ∧ p.advance.ly = p.ly ∧ p.advance.winLine = p.winLine) := by
  unfold Ppu.advance
  by_cases h1 : p.dot + 1 = Config.dotsPerLine
  · have e1 : p.dot + 1 = 456 := h1
    by_cases h2 : p.ly + 1 = Config.linesPerFrame
    · have e2 : p.ly + 1 = 154 := h2
      left; rw [if_pos h1, if_pos h2]; exact ⟨by omega, by omega, rfl, rfl, rfl⟩
    · have e2 : p.ly + 1 ≠ 154 := h2
      right; left; rw [if_pos h1, if_neg h2]; exact ⟨by omega, by omega, rfl, rfl, rfl⟩
  · have e1 : p.dot + 1 ≠ 456 := h1
    right; right; rw [if_neg h1]; exact ⟨by omega, rfl, rfl, rfl⟩

/-- A dot keeps the PPU's invariant. -/
theorem ppuDot_inv {p : Ppu} (h : p.Inv) (mem : Memory) : (ppuDot p mem).1.Inv := by
  cases hon : p.lcdOn with
  | false => rw [ppuDot_off hon]; exact h
  | true =>
    obtain ⟨hd, hl, hmode, -⟩ := h
    obtain ⟨hm, hw⟩ := hmode hon
    obtain ⟨cd, cl, cm⟩ := ppuDot_counters hon mem
    have hr := ppuDot_rendered hon mem
    have hon' := (ppuDot_lcdOn p mem).trans hon
    have hadv := Ppu.advance_cases hd hl
    simp only [Config.dotsPerLine, Config.linesPerFrame] at hd hl
    refine ⟨?_, ?_, fun _ => ⟨?_, ?_⟩, fun hoff => by rw [hon'] at hoff; exact absurd hoff (by decide)⟩
    · rw [cd]; simp only [Config.dotsPerLine]; omega
    · rw [cl]; simp only [Config.linesPerFrame]; omega
    · rw [cm, cd, cl]
    · unfold Ppu.winBound at hw ⊢
      rw [cm, cl]
      rw [hm] at hw hr
      simp only [Config.visibleLines] at hw ⊢
      have hrw := renderScanline_winLine { p.advance with mode := .pixelTransfer } mem p.advance.ly
      dsimp only at hrw
      generalize (renderScanline { p.advance with mode := .pixelTransfer } mem p.advance.ly).winLine = w at hr hrw
      generalize (ppuDot p mem).1.winLine = w' at hr ⊢
      generalize (ppuDot p mem).1.fb = f' at hr
      generalize p.advance.winLine = aw at *
      generalize p.advance.dot = ad at *
      generalize p.advance.ly = al at *
      rcases modeOf_cases p.ly p.dot with m | m | m | m <;> rcases modeOf_cases al ad with m' | m' | m' | m' <;>
        simp only [m.1, m'.1, reduceCtorEq, false_and, and_false, if_false, ne_eq, not_false_eq_true, and_self, if_true,
          or_false, not_true_eq_false, or_true] at hw hr ⊢ <;> (repeat' split at hw) <;> (repeat' split) <;> omega

/-- A tick keeps the PPU's invariant. -/
theorem ppuTick_inv {p : Ppu} (h : p.Inv) (n : Nat) (mem : Memory) : (ppuTick n p mem).1.Inv := by
  induction n generalizing p with
  | zero => exact h
  | succ n ih => exact ih (ppuDot_inv h mem)

end Sys2Proof.Machine
end

