-- ==== Sys2Proof/Laws/Step.lean ====
section
/-! SUPPORT. The stack, the interrupt operations and the step: what each can do, and that each keeps the invariant. -/

namespace Sys2Proof.Machine

/-- The invariant looks at these fields only. -/
theorem State.Inv.of_same {s t : State} (h : s.Inv) (hf : t.f &&& 0x0F = 0) (hi : t.ime = s.ime)
    (hd : t.imeDelay = s.imeDelay) (hp : t.ppu = s.ppu) (hdma : t.dma = s.dma) (hm : t.mem = s.mem) : t.Inv := by
  obtain ⟨-, h1, h2, h3, h4, h5, h6⟩ := h
  exact ⟨hf, hd ▸ h1, hi ▸ hd ▸ h2, hp ▸ h3, hdma ▸ h4, hm ▸ h5, hm ▸ h6⟩

/-! ## The stack -/

/-- `Push16` is two CPU writes, the high byte first, at the higher address; `SP` moves whether or not the bus accepts
them (R166). -/
theorem push16_eq (s : State) (v : Word) :
    push16 s v =
      { cpuWrite (cpuWrite s (s.sp - 1) (highByte v)) (s.sp - 2) (lowByte v) with sp := s.sp - 2 } := by
  have h2 : s.sp - 1 - 1 = s.sp - 2 := by rw [BitVec.sub_sub]; rfl
  have h1 : pushByte s (highByte v) = { cpuWrite s (s.sp - 1) (highByte v) with sp := s.sp - 1 } :=
    cpuWrite_with_sp s (s.sp - 1) (highByte v) (s.sp - 1)
  unfold push16
  rw [h1]
  unfold pushByte
  dsimp only
  rw [h2]
  exact cpuWrite_with_sp (cpuWrite s (s.sp - 1) (highByte v)) _ _ _

theorem pushByte_inv {s : State} (h : s.Inv) (v : Byte) : (pushByte s v).Inv :=
  have h' : State.Inv { s with sp := s.sp - 1 } := h.of_same h.1 rfl rfl rfl rfl rfl
  cpuWrite_inv h' _ _

theorem push16_inv {s : State} (h : s.Inv) (v : Word) : (push16 s v).Inv := pushByte_inv (pushByte_inv h _) _

/-- What a push leaves of the CPU. -/
theorem push16_keepsCpu (s : State) (v : Word) :
    push16 s v =
      { s with
        sp := s.sp - 2
        mem := (push16 s v).mem
        ppu := (push16 s v).ppu
        dma := (push16 s v).dma
        ie := (push16 s v).ie
        ifr := (push16 s v).ifr } := by
  have h1 := cpuWrite_keepsCpu s (s.sp - 1) (highByte v)
  have h2 := cpuWrite_keepsCpu (cpuWrite s (s.sp - 1) (highByte v)) (s.sp - 2) (lowByte v)
  unfold KeepsCpu at h1 h2
  rw [push16_eq, h2, h1]

/-! ## The boundary and taking an interrupt -/

/-- The countdown keeps everything but `IME` and its delay, and raises `IME` only from a delay of 1 (R275, R410). -/
theorem countdown_keeps (s : State) :
    countdown s = { s with ime := (countdown s).ime, imeDelay := (countdown s).imeDelay } := by
  unfold countdown; split <;> rfl

theorem countdown_inv {s : State} (h : s.Inv) : (countdown s).Inv := by
  obtain ⟨hf, hd, hi, hp, hdma, hw, hb⟩ := h
  unfold countdown
  split
  · exact ⟨hf, hd, hi, hp, hdma, hw, hb⟩
  · rename_i h0
    refine ⟨hf, (by omega : s.imeDelay - 1 ≤ 2), fun h1 => ?_, hp, hdma, hw, hb⟩
    have h1' : s.imeDelay - 1 ≠ 0 := h1
    show (if s.imeDelay = 1 then true else s.ime) = false
    rw [if_neg (by omega)]
    exact hi h0

/-- The wake-up changes `run_state` only (R410). -/
theorem wake_keeps (s : State) : wake s = { s with runState := (wake s).runState } := by
  unfold wake
  split
  · split <;> rfl
  · split <;> rfl
  · rfl
  · rfl

theorem boundary_inv {s : State} (h : s.Inv) : (boundary s).Inv := by
  unfold boundary
  rw [wake_keeps]
  exact countdown_inv h

theorem dispatch_inv {s : State} (h : s.Inv) : (dispatch s).Inv := by
  obtain ⟨hf, hd, hi, hp, hdma, hw, hb⟩ := h
  have ht : State.Inv { s with
      ifr := s.ifr &&& ~~~(1#5 <<< lowestSource s.pending), ime := false, imeDelay := 0, haltBug := false } :=
    ⟨hf, Nat.zero_le _, fun _ => rfl, hp, hdma, hw, hb⟩
  exact (push16_inv ht s.pc).of_same (push16_inv ht s.pc).1 rfl rfl rfl rfl rfl

/-! ## The end of a step -/

/-- What the ticks and the environment change after a CPU step (R8). -/
theorem systemTail_keeps (s : State) :
    systemTail s =
      { s with
        mem := (systemTail s).mem
        ppu := (systemTail s).ppu
        dma := (systemTail s).dma
        ifr := (systemTail s).ifr
        extRequests := (systemTail s).extRequests } := by
  have hd := dmaTick_keeps s.cycles s
  unfold systemTail deliverExternal tickPpu requestInterrupts
  dsimp only
  split
  · rw [hd]
  · rw [hd]

/-- Memory after the tail is memory after `DmaTick`. -/
theorem systemTail_mem (s : State) : (systemTail s).mem = (dmaTick s.cycles s).mem := by
  unfold systemTail deliverExternal tickPpu requestInterrupts
  dsimp only
  split <;> rfl

theorem systemTail_inv {s : State} (h : s.Inv) : (systemTail s).Inv := by
  obtain ⟨hf, hd, hi, hp, hdma, hw, hb⟩ := dmaTick_inv h s.cycles
  have hp' := ppuTick_inv hp s.cycles (dmaTick s.cycles s).mem
  unfold systemTail deliverExternal tickPpu requestInterrupts
  dsimp only
  split
  · exact ⟨hf, hd, hi, hp', hdma, hw, hb⟩
  · exact ⟨hf, hd, hi, hp', hdma, hw, hb⟩

/-! ## The step -/

/-- The branches of a step before the fetch (R410). -/
theorem beginStep_cases (s : State) :
    (∃ op addr, s.runState = .faulted op addr ∧ beginStep s = .terminal op addr) ∨
    ((∀ op addr, s.runState ≠ .faulted op addr) ∧
      (((boundary s).runState = .stopped ∧ beginStep s = .over { boundary s with cycles := 4 }) ∨
       ((boundary s).runState ≠ .stopped ∧ interruptTaken (boundary s) = true ∧
          beginStep s = .over (dispatch (boundary s))) ∨
       ((boundary s).runState = .halted ∧ interruptTaken (boundary s) = false ∧
          beginStep s = .over { boundary s with cycles := 4 }) ∨
       ((boundary s).runState ≠ .stopped ∧ (boundary s).runState ≠ .halted ∧ interruptTaken (boundary s) = false ∧
          beginStep s = .run (boundary s)))) := by
  unfold beginStep
  cases hrs : s.runState with
  | faulted op addr => exact .inl ⟨op, addr, rfl, rfl⟩
  | _ =>
    refine .inr ⟨fun _ _ => nofun, ?_⟩
    dsimp only
    by_cases h1 : (boundary s).runState = .stopped
    · exact .inl ⟨h1, by rw [if_pos h1]; rfl⟩
    · rw [if_neg h1]
      cases h2 : interruptTaken (boundary s) with
      | true => exact .inr (.inl ⟨h1, rfl, by simp⟩)
      | false =>
        by_cases h3 : (boundary s).runState = .halted
        · exact .inr (.inr (.inl ⟨h3, rfl, by simp [h3, Config.idleCycles]⟩))
        · exact .inr (.inr (.inr ⟨h1, h3, rfl, by simp [h3]⟩))

/-- Everything a step that answers a next state did: it was idle, it took an interrupt, or it executed the instruction at
`PC`; then the ticks (R8, R410). -/
theorem step_next_cases {s t : State} (h : step s = .next t) :
    (∃ u, t = systemTail u ∧
      ((u = { boundary s with cycles := 4 } ∧ ((boundary s).runState = .stopped ∨ (boundary s).runState = .halted)) ∨
       (u = dispatch (boundary s) ∧ interruptTaken (boundary s) = true) ∨
       (exec (fetchInstr (boundary s)) (fetched (boundary s)) = .next u ∧ interruptTaken (boundary s) = false))) := by
  unfold step at h
  rcases beginStep_cases s with ⟨op, addr, -, hb⟩ | ⟨-, ⟨h1, hb⟩ | ⟨-, h2, hb⟩ | ⟨h1, -, hb⟩ | ⟨-, -, h2, hb⟩⟩ <;>
    simp only [hb] at h
  · cases h
  · cases h; exact ⟨_, rfl, .inl ⟨rfl, .inl h1⟩⟩
  · cases h; exact ⟨_, rfl, .inr (.inl ⟨rfl, h2⟩)⟩
  · cases h; exact ⟨_, rfl, .inl ⟨rfl, .inr h1⟩⟩
  · cases he : exec (fetchInstr (boundary s)) (fetched (boundary s)) with
    | next u => rw [he] at h; cases h; exact ⟨u, rfl, .inr (.inr ⟨rfl, h2⟩)⟩
    | fault r => rw [he] at h; cases h
    | refused r => rw [he] at h; cases h

/-- Fetching moves `PC` and consumes the wait quirk, and changes nothing else (R103). -/
theorem fetched_keeps (s : State) : fetched s = { s with pc := (fetched s).pc, haltBug := (fetched s).haltBug } := by
  unfold fetched; split <;> rfl

end Sys2Proof.Machine
end

