-- ==== Sys2Proof/Laws/Alu.lean ====
section
/-! SUPPORT. The arithmetic, shift and transfer operations that instructions share, as equations on words, and the three
forms of 8-bit arithmetic as one. -/

namespace Sys2Proof.Machine

/-! ## 8-bit arithmetic -/

/-- Every form of 8-bit arithmetic is one operation on `A` and the form's operand (R178). -/
theorem AluSrc.exec_eq (op : AluOp) (x : AluSrc) (s : State) :
    exec (x.instr op) s = done x.cycles (aluA op (x.value s) s) := by
  cases x with
  | reg r => exact exec_aluReg op r s
  | mem => exact exec_aluMem op s
  | imm n => exact exec_aluImm op n s

/-- The exact difference narrowed is the difference of the bytes (R177). -/
theorem ofInt_sub_sub (a b : Byte) (c : Bool) :
    BitVec.ofInt 8 ((a.toNat : Int) - b.toNat - c.toNat) = a - b - BitVec.ofNat 8 c.toNat := by
  have h1 := a.isLt
  have h2 := b.isLt
  apply BitVec.eq_of_toNat_eq
  cases c <;> simp [BitVec.toNat_ofInt, BitVec.toNat_sub] <;> omega

/-! ## Rotates and shifts -/

/-- The shifted byte of each operation, as shifts of the byte (R224 to R231). -/
theorem shift8_value (op : ShiftOp) (v : Byte) (c : Bool) :
    (shift8 op v c).1 =
      match op with
      | .rlc => v <<< 1 ||| v >>> 7
      | .rrc => v >>> 1 ||| v <<< 7
      | .rl => v <<< 1 ||| (if c then 1 else 0)
      | .rr => v >>> 1 ||| (if c then (1 : Byte) else 0) <<< 7
      | .sla => v <<< 1
      | .sra => v >>> 1 ||| (v &&& 0x80)
      | .swap => v <<< 4 ||| v >>> 4
      | .srl => v >>> 1 := by
  revert v c; cases op <;> decide +kernel

/-- The bit each operation shifts out (R224 to R231). -/
theorem shift8_out (op : ShiftOp) (v : Byte) (c : Bool) :
    (shift8 op v c).2 =
      match op with
      | .rlc | .rl | .sla => v.getLsbD 7
      | .rrc | .rr | .sra | .srl => v.getLsbD 0
      | .swap => false := by
  cases op <;> rfl

/-! ## Transfers -/

/-- An instruction that moves `PC` and does nothing else. -/
theorem jumpsTo_of {i : Instr} {s : State} {w : Word} {n : Nat} (h : exec i s = done n { s with pc := w }) :
    JumpsTo i s w n :=
  ⟨_, h, fun x => cpuRead_congr rfl rfl rfl rfl rfl rfl x, rfl⟩

/-- An instruction that pushes `PC` and moves it. -/
theorem callsTo_of {i : Instr} {s : State} {w : Word} {n : Nat} (h : exec i s = done n (callTo s w)) : CallsTo i s w n := by
  refine storesTwo_of ?_ (fun u => ⟨rfl, rfl, rfl, rfl, rfl, rfl⟩)
  rw [h]; simp only [callTo, done, push16_eq]

/-! ## Pending interrupts -/

/-- `pending` as the spec writes it, in eight bits (R404). -/
theorem pending_byte (ie : Byte) (f : BitVec 5) : ie &&& f.setWidth 8 &&& 0x1F = (ie.setWidth 5 &&& f).setWidth 8 := by
  apply BitVec.eq_of_getLsbD_eq
  intro i hi
  interval_cases i <;> simp

/-- The lowest source of R408 is the lowest set bit. -/
theorem lowestSource_eq {v : BitVec 5} {n : Nat} (hn : n < 5) (h : v.getLsbD n = true)
    (hl : ∀ m, m < n → v.getLsbD m = false) : lowestSource v = n := by
  unfold lowestSource
  interval_cases n
  · rw [h]; rfl
  · rw [h, hl 0 (by decide)]; rfl
  · rw [h, hl 0 (by decide), hl 1 (by decide)]; rfl
  · rw [h, hl 0 (by decide), hl 1 (by decide), hl 2 (by decide)]; rfl
  · rw [hl 0 (by decide), hl 1 (by decide), hl 2 (by decide), hl 3 (by decide)]; rfl

end Sys2Proof.Machine
end

