-- ==== Sys2Proof/Laws/Fixed.lean ====
section
/-! SUPPORT. What no instruction changes, whatever it is: ROM, the parameters of the run, the framebuffer; and that `IME`
comes on by `RETI` alone. -/

namespace Sys2Proof.Machine

/-- What no instruction changes: ROM (R70), the presence of cartridge RAM (R42), the calls still to come, and the
framebuffer (R350). -/
abbrev KeepsFixed (s t : State) : Prop :=
  (∀ k, k < 0x8000 → t.mem.read k = s.mem.read k) ∧ t.cartRamPresent = s.cartRamPresent ∧
    t.extRequests = s.extRequests ∧ t.ppu.fb = s.ppu.fb

/-- `KeepsFixed`, and nothing but `RETI` sets `IME` (R30). -/
def KeepsRest (i : Instr) (s : State) (r : Result) : Prop :=
  ∀ t, r = .next t → KeepsFixed s t ∧ (i = .reti ∨ (t.ime = true → s.ime = true))

/-- One change after another. -/
theorem KeepsFixed.trans {s t u : State} (h : KeepsFixed s t) (g : KeepsFixed t u) : KeepsFixed s u :=
  ⟨fun k hk => (g.1 k hk).trans (h.1 k hk), g.2.1.trans h.2.1, g.2.2.1.trans h.2.2.1, g.2.2.2.trans h.2.2.2⟩

/-- A CPU write changes none of it. -/
theorem keepsFixed_write (s : State) (a : Word) (v : Byte) : KeepsFixed s (cpuWrite s a v) :=
  ⟨fun _ hk => cpuWrite_rom s a v hk, cpuWrite_cartRamPresent s a v, cpuWrite_extRequests s a v,
    (cpuWrite_frame s a v).2.2.2.2.2.1⟩

/-- A push changes none of it. -/
theorem keepsFixed_push (s : State) (v : Word) : KeepsFixed s (push16 s v) := by
  rw [push16_eq]
  exact (keepsFixed_write s _ _).trans (keepsFixed_write _ _ _)

/-- The end of an instruction. -/
theorem keepsRest_done {i : Instr} {s u : State} {n : Nat} (h : KeepsFixed s u) (hi : u.ime = s.ime) :
    KeepsRest i s (done n u) := by
  intro t ht
  cases ht
  exact ⟨h, .inr fun g => hi ▸ g⟩

/-- An instruction that writes registers only. -/
theorem keepsRest_regs {i : Instr} {s u : State} {n : Nat} (hm : u.mem = s.mem) (hc : u.cartRamPresent = s.cartRamPresent)
    (he : u.extRequests = s.extRequests) (hp : u.ppu = s.ppu) (hi : u.ime = s.ime) : KeepsRest i s (done n u) :=
  keepsRest_done ⟨fun _ _ => by rw [hm], hc, he, by rw [hp]⟩ hi

/-- Every instruction, one case per family. -/
theorem exec_keepsRest (i : Instr) (s : State) : KeepsRest i s (exec i s) := by
  refine instr_byFamily (fun i => KeepsRest i s (exec i s)) ?ldReg ?ldImm ?ldFromHl ?ldToHl ?aluReg ?aluMem ?aluImm ?incReg
    ?decReg ?ldPair ?addHl ?incPair ?decPair ?push ?pop ?jrIf ?jpIf ?callIf ?retIf ?rst ?shiftReg ?shiftMem ?bitReg ?bitMem
    ?resReg ?resMem ?setReg ?setMem ?ldMNnSp ?stop ?jrE ?ldMHlN ?jpNn ?callNn ?ldhMNA ?addSpE ?ldMNnA ?ldhAMN ?ldHlSpE
    ?ldAMNn ?nop ?ldMBcA ?rlca ?ldAMBc ?rrca ?ldMDeA ?rla ?ldAMDe ?rra ?ldMHliA ?daa ?ldAMHli ?cpl ?ldMHldA ?incMHl ?decMHl
    ?scf ?ldAMHld ?ccf ?halt ?ret ?illegalD3 ?reti ?illegalDB ?illegalDD ?ldhMCA ?illegalE3 ?illegalE4 ?jpHl ?illegalEB
    ?illegalEC ?illegalED ?ldhAMC ?di ?illegalF4 ?ldSpHl ?ei ?illegalFC ?illegalFD i
  case illegalD3 | illegalDB | illegalDD | illegalE3 | illegalE4 | illegalEB | illegalEC | illegalED | illegalF4 |
      illegalFC | illegalFD => exact fun t ht => nomatch ht
  case reti =>
    intro t ht; cases ht
    exact ⟨⟨fun _ _ => rfl, rfl, rfl, rfl⟩, .inl rfl⟩
  case di => intro t ht; cases ht; exact ⟨⟨fun _ _ => rfl, rfl, rfl, rfl⟩, .inr nofun⟩
  case ldReg => intro rd r; rw [exec_ldReg]; exact keepsRest_regs (by simp) (by simp) (by simp) (by simp) (by simp)
  case ldImm => intro rd n; rw [exec_ldImm]; exact keepsRest_regs (by simp) (by simp) (by simp) (by simp) (by simp)
  case ldFromHl => intro rd; rw [exec_ldFromHl]; exact keepsRest_regs (by simp) (by simp) (by simp) (by simp) (by simp)
  case ldToHl => intro r; rw [exec_ldToHl]; exact keepsRest_done (keepsFixed_write _ _ _) (cpuWrite_ime _ _ _)
  case aluReg => intro op r; rw [exec_aluReg]; cases op <;> exact keepsRest_regs rfl rfl rfl rfl rfl
  case aluMem => intro op; rw [exec_aluMem]; cases op <;> exact keepsRest_regs rfl rfl rfl rfl rfl
  case aluImm => intro op n; rw [exec_aluImm]; cases op <;> exact keepsRest_regs rfl rfl rfl rfl rfl
  case incReg => intro r; rw [exec_incReg]; cases r <;> exact keepsRest_regs rfl rfl rfl rfl rfl
  case decReg => intro r; rw [exec_decReg]; cases r <;> exact keepsRest_regs rfl rfl rfl rfl rfl
  case ldPair => intro p nn; rw [exec_ldPair]; cases p <;> exact keepsRest_regs rfl rfl rfl rfl rfl
  case addHl => intro p; rw [exec_addHl]; exact keepsRest_regs rfl rfl rfl rfl rfl
  case incPair => intro p; rw [exec_incPair]; cases p <;> exact keepsRest_regs rfl rfl rfl rfl rfl
  case decPair => intro p; rw [exec_decPair]; cases p <;> exact keepsRest_regs rfl rfl rfl rfl rfl
  case push => intro p; rw [exec_push]; exact keepsRest_done (keepsFixed_push _ _) (by rw [push16_keepsCpu])
  case pop => intro p; rw [exec_pop]; cases p <;> exact keepsRest_regs rfl rfl rfl rfl rfl
  case jrIf => intro cc e; rw [exec_jrIf, jumpRelIf]; split <;> exact keepsRest_regs rfl rfl rfl rfl rfl
  case jpIf => intro cc nn; rw [exec_jpIf, jumpIf]; split <;> exact keepsRest_regs rfl rfl rfl rfl rfl
  case callIf =>
    intro cc nn; rw [exec_callIf, callIf]
    split
    · exact keepsRest_done (keepsFixed_push s s.pc) (by rw [callTo, push16_keepsCpu])
    · exact keepsRest_regs rfl rfl rfl rfl rfl
  case retIf => intro cc; rw [exec_retIf, returnIf]; split <;> exact keepsRest_regs rfl rfl rfl rfl rfl
  case rst => intro t; rw [exec_rst]; exact keepsRest_done (keepsFixed_push s s.pc) (by rw [callTo, push16_keepsCpu])
  case callNn => intro nn; exact keepsRest_done (keepsFixed_push s s.pc) (by rw [callTo, push16_keepsCpu])
  case shiftReg => intro op r; rw [exec_shiftReg]; cases r <;> exact keepsRest_regs rfl rfl rfl rfl rfl
  case shiftMem => intro op; rw [exec_shiftMem]; exact keepsRest_done (keepsFixed_write s _ _) (cpuWrite_ime s _ _)
  case bitReg => intro b r; rw [exec_bitReg]; exact keepsRest_regs rfl rfl rfl rfl rfl
  case bitMem => intro b; rw [exec_bitMem]; exact keepsRest_regs rfl rfl rfl rfl rfl
  case resReg => intro b r; rw [exec_resReg]; cases r <;> exact keepsRest_regs rfl rfl rfl rfl rfl
  case resMem => intro b; rw [exec_resMem]; exact keepsRest_done (keepsFixed_write s _ _) (cpuWrite_ime s _ _)
  case setReg => intro b r; rw [exec_setReg]; cases r <;> exact keepsRest_regs rfl rfl rfl rfl rfl
  case setMem => intro b; rw [exec_setMem]; exact keepsRest_done (keepsFixed_write s _ _) (cpuWrite_ime s _ _)
  case ldMNnSp =>
    intro nn
    exact keepsRest_done ((keepsFixed_write s _ _).trans (keepsFixed_write _ _ _)) (by simp [cpuWrite16])
  case ldMHlN => intro n; exact keepsRest_done (keepsFixed_write s _ _) (cpuWrite_ime s _ _)
  case ldhMNA => intro n; exact keepsRest_done (keepsFixed_write s _ _) (cpuWrite_ime s _ _)
  case ldMNnA => intro nn; exact keepsRest_done (keepsFixed_write s _ _) (cpuWrite_ime s _ _)
  case ldMBcA | ldMDeA | ldhMCA | ldMHliA | ldMHldA | incMHl | decMHl =>
    exact keepsRest_done (keepsFixed_write s _ _) (cpuWrite_ime s _ _)
  case addSpE | ldHlSpE | stop | jrE | jpNn | ldhAMN | ldAMNn => intro x; exact keepsRest_regs rfl rfl rfl rfl rfl
  case rlca | rrca | rla | rra | cpl | daa | scf | ccf | nop | ldAMBc | ldAMDe | ldAMHli | ldAMHld | ret | jpHl | ldhAMC |
      ldSpHl => exact keepsRest_regs rfl rfl rfl rfl rfl
  case halt =>
    show KeepsRest _ s (done 4 (waitForInterrupt s))
    unfold waitForInterrupt
    split <;> exact keepsRest_regs rfl rfl rfl rfl rfl
  case ei =>
    show KeepsRest _ s (done 4 (if _ then _ else _))
    split <;> exact keepsRest_regs rfl rfl rfl rfl rfl

end Sys2Proof.Machine
end

