-- ==== Sys2Proof/Laws/Invariant.lean ====
section
/-! SUPPORT. Every instruction keeps the invariant: one case per family. -/

namespace Sys2Proof.Machine

/-- The invariant is kept by the outcome of an instruction. -/
def KeepsInv (s : State) (r : Result) : Prop := ∀ t, r = .next t → s.Inv → t.Inv

theorem keepsInv_done {s u : State} {n : Nat} (h : s.Inv → u.Inv) : KeepsInv s (done n u) := by
  intro t ht hs
  cases ht
  exact (h hs).of_same (h hs).1 rfl rfl rfl rfl rfl

/-- An instruction that writes registers only. -/
theorem keepsInv_regs {s u : State} {n : Nat} (hf : s.f &&& 0x0F = 0 → u.f &&& 0x0F = 0) (hi : u.ime = s.ime)
    (hd : u.imeDelay = s.imeDelay) (hp : u.ppu = s.ppu) (hdma : u.dma = s.dma) (hm : u.mem = s.mem) :
    KeepsInv s (done n u) :=
  keepsInv_done fun h => h.of_same (hf h.1) hi hd hp hdma hm

theorem setFlags_inv {s : State} (h : s.Inv) (z n g c : Bool) : (s.setFlags z n g c).Inv :=
  h.of_same (flagByte_low z n g c) rfl rfl rfl rfl rfl

theorem aluA_keeps (op : AluOp) (x : Byte) (s : State) :
    aluA op x s = { s with a := (aluA op x s).a, f := (aluA op x s).f } ∧ (aluA op x s).f &&& 0x0F = 0 := by
  cases op <;> exact ⟨rfl, flagByte_low _ _ _ _⟩

theorem mask_low (v : Byte) : v &&& 0xF0 &&& 0x0F = 0 := by
  rw [BitVec.and_assoc]; simp

theorem exec_keepsInv (i : Instr) (s : State) : KeepsInv s (exec i s) := by
  refine instr_byFamily (fun i => KeepsInv s (exec i s)) ?ldReg ?ldImm ?ldFromHl ?ldToHl ?aluReg ?aluMem ?aluImm ?incReg
    ?decReg ?ldPair ?addHl ?incPair ?decPair ?push ?pop ?jrIf ?jpIf ?callIf ?retIf ?rst ?shiftReg ?shiftMem ?bitReg ?bitMem
    ?resReg ?resMem ?setReg ?setMem ?ldMNnSp ?stop ?jrE ?ldMHlN ?jpNn ?callNn ?ldhMNA ?addSpE ?ldMNnA ?ldhAMN ?ldHlSpE
    ?ldAMNn ?nop ?ldMBcA ?rlca ?ldAMBc ?rrca ?ldMDeA ?rla ?ldAMDe ?rra ?ldMHliA ?daa ?ldAMHli ?cpl ?ldMHldA ?incMHl ?decMHl
    ?scf ?ldAMHld ?ccf ?halt ?ret ?illegalD3 ?reti ?illegalDB ?illegalDD ?ldhMCA ?illegalE3 ?illegalE4 ?jpHl ?illegalEB
    ?illegalEC ?illegalED ?ldhAMC ?di ?illegalF4 ?ldSpHl ?ei ?illegalFC ?illegalFD i
  case illegalD3 | illegalDB | illegalDD | illegalE3 | illegalE4 | illegalEB | illegalEC | illegalED | illegalF4 |
      illegalFC | illegalFD => exact fun t ht => nomatch ht
  case ldReg => intro rd r; rw [exec_ldReg]; exact keepsInv_regs (by simp) (by simp) (by simp) (by simp) (by simp) (by simp)
  case ldImm => intro rd n; rw [exec_ldImm]; exact keepsInv_regs (by simp) (by simp) (by simp) (by simp) (by simp) (by simp)
  case ldFromHl => intro rd; rw [exec_ldFromHl]; exact keepsInv_regs (by simp) (by simp) (by simp) (by simp) (by simp) (by simp)
  case ldToHl => intro r; rw [exec_ldToHl]; exact keepsInv_done fun h => cpuWrite_inv h _ _
  case aluReg =>
    intro op r; rw [exec_aluReg]
    have h := aluA_keeps op (s.r8 r) s
    exact keepsInv_regs (fun _ => h.2) (by rw [h.1]) (by rw [h.1]) (by rw [h.1]) (by rw [h.1]) (by rw [h.1])
  case aluMem =>
    intro op; rw [exec_aluMem]
    have h := aluA_keeps op s.memHl s
    exact keepsInv_regs (fun _ => h.2) (by rw [h.1]) (by rw [h.1]) (by rw [h.1]) (by rw [h.1]) (by rw [h.1])
  case aluImm =>
    intro op n; rw [exec_aluImm]
    have h := aluA_keeps op n s
    exact keepsInv_regs (fun _ => h.2) (by rw [h.1]) (by rw [h.1]) (by rw [h.1]) (by rw [h.1]) (by rw [h.1])
  case incReg => intro r; rw [exec_incReg]; exact keepsInv_regs (by simp [incFlags]) (by simp [incFlags]) (by simp [incFlags]) (by simp [incFlags]) (by simp [incFlags]) (by simp [incFlags])
  case decReg => intro r; rw [exec_decReg]; exact keepsInv_regs (by simp [decFlags]) (by simp [decFlags]) (by simp [decFlags]) (by simp [decFlags]) (by simp [decFlags]) (by simp [decFlags])
  case ldPair => intro p nn; rw [exec_ldPair]; exact keepsInv_regs (by simp) (by simp) (by simp) (by simp) (by simp) (by simp)
  case addHl => intro p; rw [exec_addHl]; exact keepsInv_regs (by simp) (by simp) (by simp) (by simp) (by simp) (by simp)
  case incPair => intro p; rw [exec_incPair]; exact keepsInv_regs (by simp) (by simp) (by simp) (by simp) (by simp) (by simp)
  case decPair => intro p; rw [exec_decPair]; exact keepsInv_regs (by simp) (by simp) (by simp) (by simp) (by simp) (by simp)
  case push => intro p; rw [exec_push]; exact keepsInv_done fun h => push16_inv h _
  case pop =>
    intro p; rw [exec_pop]
    refine keepsInv_regs (fun h => ?_) (by simp [popped]) (by simp [popped]) (by simp [popped]) (by simp [popped]) (by simp [popped])
    cases p
    · exact h
    · exact h
    · exact h
    · exact mask_low _
  case jrIf =>
    intro cc e; rw [exec_jrIf]; unfold jumpRelIf jumpTo
    split <;> exact keepsInv_regs id rfl rfl rfl rfl rfl
  case jpIf =>
    intro cc nn; rw [exec_jpIf]; unfold jumpIf jumpTo
    split <;> exact keepsInv_regs id rfl rfl rfl rfl rfl
  case callIf =>
    intro cc nn; rw [exec_callIf]; unfold callIf
    split
    · exact keepsInv_done fun h => (push16_inv h _).of_same (push16_inv h _).1 rfl rfl rfl rfl rfl
    · exact keepsInv_regs id rfl rfl rfl rfl rfl
  case retIf =>
    intro cc; rw [exec_retIf]; unfold returnIf
    split <;> exact keepsInv_regs id rfl rfl rfl rfl rfl
  case rst =>
    intro t; rw [exec_rst]
    exact keepsInv_done fun h => (push16_inv h _).of_same (push16_inv h _).1 rfl rfl rfl rfl rfl
  case shiftReg => intro op r; rw [exec_shiftReg]; exact keepsInv_regs (by simp [shiftFlags]) (by simp [shiftFlags]) (by simp [shiftFlags]) (by simp [shiftFlags]) (by simp [shiftFlags]) (by simp [shiftFlags])
  case shiftMem => intro op; rw [exec_shiftMem]; exact keepsInv_done fun h => setFlags_inv (cpuWrite_inv h _ _) _ _ _ _
  case bitReg => intro b r; rw [exec_bitReg]; exact keepsInv_done fun h => setFlags_inv h _ _ _ _
  case bitMem => intro b; rw [exec_bitMem]; exact keepsInv_done fun h => setFlags_inv h _ _ _ _
  case resReg => intro b r; rw [exec_resReg]; exact keepsInv_regs (by simp) (by simp) (by simp) (by simp) (by simp) (by simp)
  case resMem => intro b; rw [exec_resMem]; exact keepsInv_done fun h => cpuWrite_inv h _ _
  case setReg => intro b r; rw [exec_setReg]; exact keepsInv_regs (by simp) (by simp) (by simp) (by simp) (by simp) (by simp)
  case setMem => intro b; rw [exec_setMem]; exact keepsInv_done fun h => cpuWrite_inv h _ _
  case ldMNnSp => intro nn; exact keepsInv_done fun h => cpuWrite_inv (cpuWrite_inv h _ _) _ _
  case ldMHlN => intro n; exact keepsInv_done fun h => cpuWrite_inv h _ _
  case ldhMNA => intro n; exact keepsInv_done fun h => cpuWrite_inv h _ _
  case ldMNnA => intro nn; exact keepsInv_done fun h => cpuWrite_inv h _ _
  case ldMBcA | ldMDeA | ldhMCA => exact keepsInv_done fun h => cpuWrite_inv h _ _
  case ldMHliA | ldMHldA =>
    exact keepsInv_done fun h => (cpuWrite_inv h _ _).of_same (cpuWrite_inv h _ _).1 rfl rfl rfl rfl rfl
  case incMHl | decMHl => exact keepsInv_done fun h => setFlags_inv (cpuWrite_inv h _ _) _ _ _ _
  case callNn =>
    intro nn
    exact keepsInv_done fun h => (push16_inv h _).of_same (push16_inv h _).1 rfl rfl rfl rfl rfl
  case addSpE | ldHlSpE => intro e; exact keepsInv_done fun h => setFlags_inv (h.of_same h.1 rfl rfl rfl rfl rfl) _ _ _ _
  case rlca | rrca | rla | rra | cpl => exact keepsInv_done fun h => setFlags_inv (h.of_same h.1 rfl rfl rfl rfl rfl) _ _ _ _
  case daa => exact keepsInv_done fun h => setFlags_inv (h.of_same h.1 rfl rfl rfl rfl rfl) _ _ _ _
  case scf | ccf => exact keepsInv_done fun h => setFlags_inv h _ _ _ _
  case stop | jrE | jpNn => intro x; exact keepsInv_regs id rfl rfl rfl rfl rfl
  case ldhAMN | ldAMNn => intro n; exact keepsInv_regs id rfl rfl rfl rfl rfl
  case nop | ldAMBc | ldAMDe | ldAMHli | ldAMHld | ret | jpHl | ldhAMC | ldSpHl => exact keepsInv_regs id rfl rfl rfl rfl rfl
  case halt =>
    refine keepsInv_done fun h => ?_
    unfold waitForInterrupt
    split <;> exact h.of_same h.1 rfl rfl rfl rfl rfl
  case di => exact keepsInv_done fun h => ⟨h.1, Nat.zero_le _, fun _ => rfl, h.2.2.2⟩
  case reti => exact keepsInv_done fun h => ⟨h.1, Nat.zero_le _, fun h0 => absurd rfl h0, h.2.2.2⟩
  case ei =>
    refine keepsInv_done fun h => ?_
    split
    · rename_i hc
      exact ⟨h.1, Nat.le_refl 2, fun _ => hc.1, h.2.2.2⟩
    · exact h

end Sys2Proof.Machine
end

