-- ==== Sys2Proof/Laws/PerInstr.lean ====
section
/-! SUPPORT. What holds of every instruction as syntax, one lemma per constructor: its encoding is as long as the decoder
takes it to be from its first byte alone (R116). -/

namespace Sys2Proof.Laws.EncodedLength

/-- The encoding of `i` begins with a byte from which alone the decoder takes its length, 1 to 3 bytes (R100, R116). -/
def Statement (i : Instr) : Prop :=
  ∃ (b0 : Byte) (rest : List Byte), encode i = b0 :: rest ∧ i.length = lengthOf b0 ∧ 1 ≤ i.length ∧ i.length ≤ 3

theorem of_bytes {i : Instr} {b0 : Byte} {rest : List Byte} (h : encode i = b0 :: rest)
    (hl : rest.length + 1 = lengthOf b0) (hr : rest.length ≤ 2) : Statement i :=
  have e : i.length = rest.length + 1 := congrArg List.length h
  ⟨b0, rest, h, e.trans hl, e ▸ Nat.succ_le_succ (Nat.zero_le _), e ▸ Nat.succ_le_succ hr⟩

theorem nop : Statement .nop := of_bytes rfl rfl (Nat.le_of_ble_eq_true rfl)
theorem ldBcNn (nn : Word) : Statement (.ldBcNn nn) := of_bytes rfl rfl (Nat.le_of_ble_eq_true rfl)
theorem ldMBcA : Statement .ldMBcA := of_bytes rfl rfl (Nat.le_of_ble_eq_true rfl)
theorem incBc : Statement .incBc := of_bytes rfl rfl (Nat.le_of_ble_eq_true rfl)
theorem incB : Statement .incB := of_bytes rfl rfl (Nat.le_of_ble_eq_true rfl)
theorem decB : Statement .decB := of_bytes rfl rfl (Nat.le_of_ble_eq_true rfl)
theorem ldBN (n : Byte) : Statement (.ldBN n) := of_bytes rfl rfl (Nat.le_of_ble_eq_true rfl)
theorem rlca : Statement .rlca := of_bytes rfl rfl (Nat.le_of_ble_eq_true rfl)
theorem ldMNnSp (nn : Word) : Statement (.ldMNnSp nn) := of_bytes rfl rfl (Nat.le_of_ble_eq_true rfl)
theorem addHlBc : Statement .addHlBc := of_bytes rfl rfl (Nat.le_of_ble_eq_true rfl)
theorem ldAMBc : Statement .ldAMBc := of_bytes rfl rfl (Nat.le_of_ble_eq_true rfl)
theorem decBc : Statement .decBc := of_bytes rfl rfl (Nat.le_of_ble_eq_true rfl)
theorem incC : Statement .incC := of_bytes rfl rfl (Nat.le_of_ble_eq_true rfl)
theorem decC : Statement .decC := of_bytes rfl rfl (Nat.le_of_ble_eq_true rfl)
theorem ldCN (n : Byte) : Statement (.ldCN n) := of_bytes rfl rfl (Nat.le_of_ble_eq_true rfl)
theorem rrca : Statement .rrca := of_bytes rfl rfl (Nat.le_of_ble_eq_true rfl)
theorem stop (n : Byte) : Statement (.stop n) := of_bytes rfl rfl (Nat.le_of_ble_eq_true rfl)
theorem ldDeNn (nn : Word) : Statement (.ldDeNn nn) := of_bytes rfl rfl (Nat.le_of_ble_eq_true rfl)
theorem ldMDeA : Statement .ldMDeA := of_bytes rfl rfl (Nat.le_of_ble_eq_true rfl)
theorem incDe : Statement .incDe := of_bytes rfl rfl (Nat.le_of_ble_eq_true rfl)
theorem incD : Statement .incD := of_bytes rfl rfl (Nat.le_of_ble_eq_true rfl)
theorem decD : Statement .decD := of_bytes rfl rfl (Nat.le_of_ble_eq_true rfl)
theorem ldDN (n : Byte) : Statement (.ldDN n) := of_bytes rfl rfl (Nat.le_of_ble_eq_true rfl)
theorem rla : Statement .rla := of_bytes rfl rfl (Nat.le_of_ble_eq_true rfl)
theorem jrE (e : Byte) : Statement (.jrE e) := of_bytes rfl rfl (Nat.le_of_ble_eq_true rfl)
theorem addHlDe : Statement .addHlDe := of_bytes rfl rfl (Nat.le_of_ble_eq_true rfl)
theorem ldAMDe : Statement .ldAMDe := of_bytes rfl rfl (Nat.le_of_ble_eq_true rfl)
theorem decDe : Statement .decDe := of_bytes rfl rfl (Nat.le_of_ble_eq_true rfl)
theorem incE : Statement .incE := of_bytes rfl rfl (Nat.le_of_ble_eq_true rfl)
theorem decE : Statement .decE := of_bytes rfl rfl (Nat.le_of_ble_eq_true rfl)
theorem ldEN (n : Byte) : Statement (.ldEN n) := of_bytes rfl rfl (Nat.le_of_ble_eq_true rfl)
theorem rra : Statement .rra := of_bytes rfl rfl (Nat.le_of_ble_eq_true rfl)
theorem jrNzE (e : Byte) : Statement (.jrNzE e) := of_bytes rfl rfl (Nat.le_of_ble_eq_true rfl)
theorem ldHlNn (nn : Word) : Statement (.ldHlNn nn) := of_bytes rfl rfl (Nat.le_of_ble_eq_true rfl)
theorem ldMHliA : Statement .ldMHliA := of_bytes rfl rfl (Nat.le_of_ble_eq_true rfl)
theorem incHl : Statement .incHl := of_bytes rfl rfl (Nat.le_of_ble_eq_true rfl)
theorem incH : Statement .incH := of_bytes rfl rfl (Nat.le_of_ble_eq_true rfl)
theorem decH : Statement .decH := of_bytes rfl rfl (Nat.le_of_ble_eq_true rfl)
theorem ldHN (n : Byte) : Statement (.ldHN n) := of_bytes rfl rfl (Nat.le_of_ble_eq_true rfl)
theorem daa : Statement .daa := of_bytes rfl rfl (Nat.le_of_ble_eq_true rfl)
theorem jrZE (e : Byte) : Statement (.jrZE e) := of_bytes rfl rfl (Nat.le_of_ble_eq_true rfl)
theorem addHlHl : Statement .addHlHl := of_bytes rfl rfl (Nat.le_of_ble_eq_true rfl)
theorem ldAMHli : Statement .ldAMHli := of_bytes rfl rfl (Nat.le_of_ble_eq_true rfl)
theorem decHl : Statement .decHl := of_bytes rfl rfl (Nat.le_of_ble_eq_true rfl)
theorem incL : Statement .incL := of_bytes rfl rfl (Nat.le_of_ble_eq_true rfl)
theorem decL : Statement .decL := of_bytes rfl rfl (Nat.le_of_ble_eq_true rfl)
theorem ldLN (n : Byte) : Statement (.ldLN n) := of_bytes rfl rfl (Nat.le_of_ble_eq_true rfl)
theorem cpl : Statement .cpl := of_bytes rfl rfl (Nat.le_of_ble_eq_true rfl)
theorem jrNcE (e : Byte) : Statement (.jrNcE e) := of_bytes rfl rfl (Nat.le_of_ble_eq_true rfl)
theorem ldSpNn (nn : Word) : Statement (.ldSpNn nn) := of_bytes rfl rfl (Nat.le_of_ble_eq_true rfl)
theorem ldMHldA : Statement .ldMHldA := of_bytes rfl rfl (Nat.le_of_ble_eq_true rfl)
theorem incSp : Statement .incSp := of_bytes rfl rfl (Nat.le_of_ble_eq_true rfl)
theorem incMHl : Statement .incMHl := of_bytes rfl rfl (Nat.le_of_ble_eq_true rfl)
theorem decMHl : Statement .decMHl := of_bytes rfl rfl (Nat.le_of_ble_eq_true rfl)
theorem ldMHlN (n : Byte) : Statement (.ldMHlN n) := of_bytes rfl rfl (Nat.le_of_ble_eq_true rfl)
theorem scf : Statement .scf := of_bytes rfl rfl (Nat.le_of_ble_eq_true rfl)
theorem jrCE (e : Byte) : Statement (.jrCE e) := of_bytes rfl rfl (Nat.le_of_ble_eq_true rfl)
theorem addHlSp : Statement .addHlSp := of_bytes rfl rfl (Nat.le_of_ble_eq_true rfl)
theorem ldAMHld : Statement .ldAMHld := of_bytes rfl rfl (Nat.le_of_ble_eq_true rfl)
theorem decSp : Statement .decSp := of_bytes rfl rfl (Nat.le_of_ble_eq_true rfl)
theorem incA : Statement .incA := of_bytes rfl rfl (Nat.le_of_ble_eq_true rfl)
theorem decA : Statement .decA := of_bytes rfl rfl (Nat.le_of_ble_eq_true rfl)
theorem ldAN (n : Byte) : Statement (.ldAN n) := of_bytes rfl rfl (Nat.le_of_ble_eq_true rfl)
theorem ccf : Statement .ccf := of_bytes rfl rfl (Nat.le_of_ble_eq_true rfl)
theorem ldBB : Statement .ldBB := of_bytes rfl rfl (Nat.le_of_ble_eq_true rfl)
theorem ldBC : Statement .ldBC := of_bytes rfl rfl (Nat.le_of_ble_eq_true rfl)
theorem ldBD : Statement .ldBD := of_bytes rfl rfl (Nat.le_of_ble_eq_true rfl)
theorem ldBE : Statement .ldBE := of_bytes rfl rfl (Nat.le_of_ble_eq_true rfl)
theorem ldBH : Statement .ldBH := of_bytes rfl rfl (Nat.le_of_ble_eq_true rfl)
theorem ldBL : Statement .ldBL := of_bytes rfl rfl (Nat.le_of_ble_eq_true rfl)
theorem ldBMHl : Statement .ldBMHl := of_bytes rfl rfl (Nat.le_of_ble_eq_true rfl)
theorem ldBA : Statement .ldBA := of_bytes rfl rfl (Nat.le_of_ble_eq_true rfl)
theorem ldCB : Statement .ldCB := of_bytes rfl rfl (Nat.le_of_ble_eq_true rfl)
theorem ldCC : Statement .ldCC := of_bytes rfl rfl (Nat.le_of_ble_eq_true rfl)
theorem ldCD : Statement .ldCD := of_bytes rfl rfl (Nat.le_of_ble_eq_true rfl)
theorem ldCE : Statement .ldCE := of_bytes rfl rfl (Nat.le_of_ble_eq_true rfl)
theorem ldCH : Statement .ldCH := of_bytes rfl rfl (Nat.le_of_ble_eq_true rfl)
theorem ldCL : Statement .ldCL := of_bytes rfl rfl (Nat.le_of_ble_eq_true rfl)
theorem ldCMHl : Statement .ldCMHl := of_bytes rfl rfl (Nat.le_of_ble_eq_true rfl)
theorem ldCA : Statement .ldCA := of_bytes rfl rfl (Nat.le_of_ble_eq_true rfl)
theorem ldDB : Statement .ldDB := of_bytes rfl rfl (Nat.le_of_ble_eq_true rfl)
theorem ldDC : Statement .ldDC := of_bytes rfl rfl (Nat.le_of_ble_eq_true rfl)
theorem ldDD : Statement .ldDD := of_bytes rfl rfl (Nat.le_of_ble_eq_true rfl)
theorem ldDE : Statement .ldDE := of_bytes rfl rfl (Nat.le_of_ble_eq_true rfl)
theorem ldDH : Statement .ldDH := of_bytes rfl rfl (Nat.le_of_ble_eq_true rfl)
theorem ldDL : Statement .ldDL := of_bytes rfl rfl (Nat.le_of_ble_eq_true rfl)
theorem ldDMHl : Statement .ldDMHl := of_bytes rfl rfl (Nat.le_of_ble_eq_true rfl)
theorem ldDA : Statement .ldDA := of_bytes rfl rfl (Nat.le_of_ble_eq_true rfl)
theorem ldEB : Statement .ldEB := of_bytes rfl rfl (Nat.le_of_ble_eq_true rfl)
theorem ldEC : Statement .ldEC := of_bytes rfl rfl (Nat.le_of_ble_eq_true rfl)
theorem ldED : Statement .ldED := of_bytes rfl rfl (Nat.le_of_ble_eq_true rfl)
theorem ldEE : Statement .ldEE := of_bytes rfl rfl (Nat.le_of_ble_eq_true rfl)
theorem ldEH : Statement .ldEH := of_bytes rfl rfl (Nat.le_of_ble_eq_true rfl)
theorem ldEL : Statement .ldEL := of_bytes rfl rfl (Nat.le_of_ble_eq_true rfl)
theorem ldEMHl : Statement .ldEMHl := of_bytes rfl rfl (Nat.le_of_ble_eq_true rfl)
theorem ldEA : Statement .ldEA := of_bytes rfl rfl (Nat.le_of_ble_eq_true rfl)
theorem ldHB : Statement .ldHB := of_bytes rfl rfl (Nat.le_of_ble_eq_true rfl)
theorem ldHC : Statement .ldHC := of_bytes rfl rfl (Nat.le_of_ble_eq_true rfl)
theorem ldHD : Statement .ldHD := of_bytes rfl rfl (Nat.le_of_ble_eq_true rfl)
theorem ldHE : Statement .ldHE := of_bytes rfl rfl (Nat.le_of_ble_eq_true rfl)
theorem ldHH : Statement .ldHH := of_bytes rfl rfl (Nat.le_of_ble_eq_true rfl)
theorem ldHL : Statement .ldHL := of_bytes rfl rfl (Nat.le_of_ble_eq_true rfl)
theorem ldHMHl : Statement .ldHMHl := of_bytes rfl rfl (Nat.le_of_ble_eq_true rfl)
theorem ldHA : Statement .ldHA := of_bytes rfl rfl (Nat.le_of_ble_eq_true rfl)
theorem ldLB : Statement .ldLB := of_bytes rfl rfl (Nat.le_of_ble_eq_true rfl)
theorem ldLC : Statement .ldLC := of_bytes rfl rfl (Nat.le_of_ble_eq_true rfl)
theorem ldLD : Statement .ldLD := of_bytes rfl rfl (Nat.le_of_ble_eq_true rfl)
theorem ldLE : Statement .ldLE := of_bytes rfl rfl (Nat.le_of_ble_eq_true rfl)
theorem ldLH : Statement .ldLH := of_bytes rfl rfl (Nat.le_of_ble_eq_true rfl)
theorem ldLL : Statement .ldLL := of_bytes rfl rfl (Nat.le_of_ble_eq_true rfl)
theorem ldLMHl : Statement .ldLMHl := of_bytes rfl rfl (Nat.le_of_ble_eq_true rfl)
theorem ldLA : Statement .ldLA := of_bytes rfl rfl (Nat.le_of_ble_eq_true rfl)
theorem ldMHlB : Statement .ldMHlB := of_bytes rfl rfl (Nat.le_of_ble_eq_true rfl)
theorem ldMHlC : Statement .ldMHlC := of_bytes rfl rfl (Nat.le_of_ble_eq_true rfl)
theorem ldMHlD : Statement .ldMHlD := of_bytes rfl rfl (Nat.le_of_ble_eq_true rfl)
theorem ldMHlE : Statement .ldMHlE := of_bytes rfl rfl (Nat.le_of_ble_eq_true rfl)
theorem ldMHlH : Statement .ldMHlH := of_bytes rfl rfl (Nat.le_of_ble_eq_true rfl)
theorem ldMHlL : Statement .ldMHlL := of_bytes rfl rfl (Nat.le_of_ble_eq_true rfl)
theorem halt : Statement .halt := of_bytes rfl rfl (Nat.le_of_ble_eq_true rfl)
theorem ldMHlA : Statement .ldMHlA := of_bytes rfl rfl (Nat.le_of_ble_eq_true rfl)
theorem ldAB : Statement .ldAB := of_bytes rfl rfl (Nat.le_of_ble_eq_true rfl)
theorem ldAC : Statement .ldAC := of_bytes rfl rfl (Nat.le_of_ble_eq_true rfl)
theorem ldAD : Statement .ldAD := of_bytes rfl rfl (Nat.le_of_ble_eq_true rfl)
theorem ldAE : Statement .ldAE := of_bytes rfl rfl (Nat.le_of_ble_eq_true rfl)
theorem ldAH : Statement .ldAH := of_bytes rfl rfl (Nat.le_of_ble_eq_true rfl)
theorem ldAL : Statement .ldAL := of_bytes rfl rfl (Nat.le_of_ble_eq_true rfl)
theorem ldAMHl : Statement .ldAMHl := of_bytes rfl rfl (Nat.le_of_ble_eq_true rfl)
theorem ldAA : Statement .ldAA := of_bytes rfl rfl (Nat.le_of_ble_eq_true rfl)
theorem addAB : Statement .addAB := of_bytes rfl rfl (Nat.le_of_ble_eq_true rfl)
theorem addAC : Statement .addAC := of_bytes rfl rfl (Nat.le_of_ble_eq_true rfl)
theorem addAD : Statement .addAD := of_bytes rfl rfl (Nat.le_of_ble_eq_true rfl)
theorem addAE : Statement .addAE := of_bytes rfl rfl (Nat.le_of_ble_eq_true rfl)
theorem addAH : Statement .addAH := of_bytes rfl rfl (Nat.le_of_ble_eq_true rfl)
theorem addAL : Statement .addAL := of_bytes rfl rfl (Nat.le_of_ble_eq_true rfl)
theorem addAMHl : Statement .addAMHl := of_bytes rfl rfl (Nat.le_of_ble_eq_true rfl)
theorem addAA : Statement .addAA := of_bytes rfl rfl (Nat.le_of_ble_eq_true rfl)
theorem adcAB : Statement .adcAB := of_bytes rfl rfl (Nat.le_of_ble_eq_true rfl)
theorem adcAC : Statement .adcAC := of_bytes rfl rfl (Nat.le_of_ble_eq_true rfl)
theorem adcAD : Statement .adcAD := of_bytes rfl rfl (Nat.le_of_ble_eq_true rfl)
theorem adcAE : Statement .adcAE := of_bytes rfl rfl (Nat.le_of_ble_eq_true rfl)
theorem adcAH : Statement .adcAH := of_bytes rfl rfl (Nat.le_of_ble_eq_true rfl)
theorem adcAL : Statement .adcAL := of_bytes rfl rfl (Nat.le_of_ble_eq_true rfl)
theorem adcAMHl : Statement .adcAMHl := of_bytes rfl rfl (Nat.le_of_ble_eq_true rfl)
theorem adcAA : Statement .adcAA := of_bytes rfl rfl (Nat.le_of_ble_eq_true rfl)
theorem subB : Statement .subB := of_bytes rfl rfl (Nat.le_of_ble_eq_true rfl)
theorem subC : Statement .subC := of_bytes rfl rfl (Nat.le_of_ble_eq_true rfl)
theorem subD : Statement .subD := of_bytes rfl rfl (Nat.le_of_ble_eq_true rfl)
theorem subE : Statement .subE := of_bytes rfl rfl (Nat.le_of_ble_eq_true rfl)
theorem subH : Statement .subH := of_bytes rfl rfl (Nat.le_of_ble_eq_true rfl)
theorem subL : Statement .subL := of_bytes rfl rfl (Nat.le_of_ble_eq_true rfl)
theorem subMHl : Statement .subMHl := of_bytes rfl rfl (Nat.le_of_ble_eq_true rfl)
theorem subA : Statement .subA := of_bytes rfl rfl (Nat.le_of_ble_eq_true rfl)
theorem sbcAB : Statement .sbcAB := of_bytes rfl rfl (Nat.le_of_ble_eq_true rfl)
theorem sbcAC : Statement .sbcAC := of_bytes rfl rfl (Nat.le_of_ble_eq_true rfl)
theorem sbcAD : Statement .sbcAD := of_bytes rfl rfl (Nat.le_of_ble_eq_true rfl)
theorem sbcAE : Statement .sbcAE := of_bytes rfl rfl (Nat.le_of_ble_eq_true rfl)
theorem sbcAH : Statement .sbcAH := of_bytes rfl rfl (Nat.le_of_ble_eq_true rfl)
theorem sbcAL : Statement .sbcAL := of_bytes rfl rfl (Nat.le_of_ble_eq_true rfl)
theorem sbcAMHl : Statement .sbcAMHl := of_bytes rfl rfl (Nat.le_of_ble_eq_true rfl)
theorem sbcAA : Statement .sbcAA := of_bytes rfl rfl (Nat.le_of_ble_eq_true rfl)
theorem andB : Statement .andB := of_bytes rfl rfl (Nat.le_of_ble_eq_true rfl)
theorem andC : Statement .andC := of_bytes rfl rfl (Nat.le_of_ble_eq_true rfl)
theorem andD : Statement .andD := of_bytes rfl rfl (Nat.le_of_ble_eq_true rfl)
theorem andE : Statement .andE := of_bytes rfl rfl (Nat.le_of_ble_eq_true rfl)
theorem andH : Statement .andH := of_bytes rfl rfl (Nat.le_of_ble_eq_true rfl)
theorem andL : Statement .andL := of_bytes rfl rfl (Nat.le_of_ble_eq_true rfl)
theorem andMHl : Statement .andMHl := of_bytes rfl rfl (Nat.le_of_ble_eq_true rfl)
theorem andA : Statement .andA := of_bytes rfl rfl (Nat.le_of_ble_eq_true rfl)
theorem xorB : Statement .xorB := of_bytes rfl rfl (Nat.le_of_ble_eq_true rfl)
theorem xorC : Statement .xorC := of_bytes rfl rfl (Nat.le_of_ble_eq_true rfl)
theorem xorD : Statement .xorD := of_bytes rfl rfl (Nat.le_of_ble_eq_true rfl)
theorem xorE : Statement .xorE := of_bytes rfl rfl (Nat.le_of_ble_eq_true rfl)
theorem xorH : Statement .xorH := of_bytes rfl rfl (Nat.le_of_ble_eq_true rfl)
theorem xorL : Statement .xorL := of_bytes rfl rfl (Nat.le_of_ble_eq_true rfl)
theorem xorMHl : Statement .xorMHl := of_bytes rfl rfl (Nat.le_of_ble_eq_true rfl)
theorem xorA : Statement .xorA := of_bytes rfl rfl (Nat.le_of_ble_eq_true rfl)
theorem orB : Statement .orB := of_bytes rfl rfl (Nat.le_of_ble_eq_true rfl)
theorem orC : Statement .orC := of_bytes rfl rfl (Nat.le_of_ble_eq_true rfl)
theorem orD : Statement .orD := of_bytes rfl rfl (Nat.le_of_ble_eq_true rfl)
theorem orE : Statement .orE := of_bytes rfl rfl (Nat.le_of_ble_eq_true rfl)
theorem orH : Statement .orH := of_bytes rfl rfl (Nat.le_of_ble_eq_true rfl)
theorem orL : Statement .orL := of_bytes rfl rfl (Nat.le_of_ble_eq_true rfl)
theorem orMHl : Statement .orMHl := of_bytes rfl rfl (Nat.le_of_ble_eq_true rfl)
theorem orA : Statement .orA := of_bytes rfl rfl (Nat.le_of_ble_eq_true rfl)
theorem cpB : Statement .cpB := of_bytes rfl rfl (Nat.le_of_ble_eq_true rfl)
theorem cpC : Statement .cpC := of_bytes rfl rfl (Nat.le_of_ble_eq_true rfl)
theorem cpD : Statement .cpD := of_bytes rfl rfl (Nat.le_of_ble_eq_true rfl)
theorem cpE : Statement .cpE := of_bytes rfl rfl (Nat.le_of_ble_eq_true rfl)
theorem cpH : Statement .cpH := of_bytes rfl rfl (Nat.le_of_ble_eq_true rfl)
theorem cpL : Statement .cpL := of_bytes rfl rfl (Nat.le_of_ble_eq_true rfl)
theorem cpMHl : Statement .cpMHl := of_bytes rfl rfl (Nat.le_of_ble_eq_true rfl)
theorem cpA : Statement .cpA := of_bytes rfl rfl (Nat.le_of_ble_eq_true rfl)
theorem retNz : Statement .retNz := of_bytes rfl rfl (Nat.le_of_ble_eq_true rfl)
theorem popBc : Statement .popBc := of_bytes rfl rfl (Nat.le_of_ble_eq_true rfl)
theorem jpNzNn (nn : Word) : Statement (.jpNzNn nn) := of_bytes rfl rfl (Nat.le_of_ble_eq_true rfl)
theorem jpNn (nn : Word) : Statement (.jpNn nn) := of_bytes rfl rfl (Nat.le_of_ble_eq_true rfl)
theorem callNzNn (nn : Word) : Statement (.callNzNn nn) := of_bytes rfl rfl (Nat.le_of_ble_eq_true rfl)
theorem pushBc : Statement .pushBc := of_bytes rfl rfl (Nat.le_of_ble_eq_true rfl)
theorem addAN (n : Byte) : Statement (.addAN n) := of_bytes rfl rfl (Nat.le_of_ble_eq_true rfl)
theorem rst00 : Statement .rst00 := of_bytes rfl rfl (Nat.le_of_ble_eq_true rfl)
theorem retZ : Statement .retZ := of_bytes rfl rfl (Nat.le_of_ble_eq_true rfl)
theorem ret : Statement .ret := of_bytes rfl rfl (Nat.le_of_ble_eq_true rfl)
theorem jpZNn (nn : Word) : Statement (.jpZNn nn) := of_bytes rfl rfl (Nat.le_of_ble_eq_true rfl)
theorem callZNn (nn : Word) : Statement (.callZNn nn) := of_bytes rfl rfl (Nat.le_of_ble_eq_true rfl)
theorem callNn (nn : Word) : Statement (.callNn nn) := of_bytes rfl rfl (Nat.le_of_ble_eq_true rfl)
theorem adcAN (n : Byte) : Statement (.adcAN n) := of_bytes rfl rfl (Nat.le_of_ble_eq_true rfl)
theorem rst08 : Statement .rst08 := of_bytes rfl rfl (Nat.le_of_ble_eq_true rfl)
theorem retNc : Statement .retNc := of_bytes rfl rfl (Nat.le_of_ble_eq_true rfl)
theorem popDe : Statement .popDe := of_bytes rfl rfl (Nat.le_of_ble_eq_true rfl)
theorem jpNcNn (nn : Word) : Statement (.jpNcNn nn) := of_bytes rfl rfl (Nat.le_of_ble_eq_true rfl)
theorem illegalD3 : Statement .illegalD3 := of_bytes rfl rfl (Nat.le_of_ble_eq_true rfl)
theorem callNcNn (nn : Word) : Statement (.callNcNn nn) := of_bytes rfl rfl (Nat.le_of_ble_eq_true rfl)
theorem pushDe : Statement .pushDe := of_bytes rfl rfl (Nat.le_of_ble_eq_true rfl)
theorem subN (n : Byte) : Statement (.subN n) := of_bytes rfl rfl (Nat.le_of_ble_eq_true rfl)
theorem rst10 : Statement .rst10 := of_bytes rfl rfl (Nat.le_of_ble_eq_true rfl)
theorem retC : Statement .retC := of_bytes rfl rfl (Nat.le_of_ble_eq_true rfl)
theorem reti : Statement .reti := of_bytes rfl rfl (Nat.le_of_ble_eq_true rfl)
theorem jpCNn (nn : Word) : Statement (.jpCNn nn) := of_bytes rfl rfl (Nat.le_of_ble_eq_true rfl)
theorem illegalDB : Statement .illegalDB := of_bytes rfl rfl (Nat.le_of_ble_eq_true rfl)
theorem callCNn (nn : Word) : Statement (.callCNn nn) := of_bytes rfl rfl (Nat.le_of_ble_eq_true rfl)
theorem illegalDD : Statement .illegalDD := of_bytes rfl rfl (Nat.le_of_ble_eq_true rfl)
theorem sbcAN (n : Byte) : Statement (.sbcAN n) := of_bytes rfl rfl (Nat.le_of_ble_eq_true rfl)
theorem rst18 : Statement .rst18 := of_bytes rfl rfl (Nat.le_of_ble_eq_true rfl)
theorem ldhMNA (n : Byte) : Statement (.ldhMNA n) := of_bytes rfl rfl (Nat.le_of_ble_eq_true rfl)
theorem popHl : Statement .popHl := of_bytes rfl rfl (Nat.le_of_ble_eq_true rfl)
theorem ldhMCA : Statement .ldhMCA := of_bytes rfl rfl (Nat.le_of_ble_eq_true rfl)
theorem illegalE3 : Statement .illegalE3 := of_bytes rfl rfl (Nat.le_of_ble_eq_true rfl)
theorem illegalE4 : Statement .illegalE4 := of_bytes rfl rfl (Nat.le_of_ble_eq_true rfl)
theorem pushHl : Statement .pushHl := of_bytes rfl rfl (Nat.le_of_ble_eq_true rfl)
theorem andN (n : Byte) : Statement (.andN n) := of_bytes rfl rfl (Nat.le_of_ble_eq_true rfl)
theorem rst20 : Statement .rst20 := of_bytes rfl rfl (Nat.le_of_ble_eq_true rfl)
theorem addSpE (e : Byte) : Statement (.addSpE e) := of_bytes rfl rfl (Nat.le_of_ble_eq_true rfl)
theorem jpHl : Statement .jpHl := of_bytes rfl rfl (Nat.le_of_ble_eq_true rfl)
theorem ldMNnA (nn : Word) : Statement (.ldMNnA nn) := of_bytes rfl rfl (Nat.le_of_ble_eq_true rfl)
theorem illegalEB : Statement .illegalEB := of_bytes rfl rfl (Nat.le_of_ble_eq_true rfl)
theorem illegalEC : Statement .illegalEC := of_bytes rfl rfl (Nat.le_of_ble_eq_true rfl)
theorem illegalED : Statement .illegalED := of_bytes rfl rfl (Nat.le_of_ble_eq_true rfl)
theorem xorN (n : Byte) : Statement (.xorN n) := of_bytes rfl rfl (Nat.le_of_ble_eq_true rfl)
theorem rst28 : Statement .rst28 := of_bytes rfl rfl (Nat.le_of_ble_eq_true rfl)
theorem ldhAMN (n : Byte) : Statement (.ldhAMN n) := of_bytes rfl rfl (Nat.le_of_ble_eq_true rfl)
theorem popAf : Statement .popAf := of_bytes rfl rfl (Nat.le_of_ble_eq_true rfl)
theorem ldhAMC : Statement .ldhAMC := of_bytes rfl rfl (Nat.le_of_ble_eq_true rfl)
theorem di : Statement .di := of_bytes rfl rfl (Nat.le_of_ble_eq_true rfl)
theorem illegalF4 : Statement .illegalF4 := of_bytes rfl rfl (Nat.le_of_ble_eq_true rfl)
theorem pushAf : Statement .pushAf := of_bytes rfl rfl (Nat.le_of_ble_eq_true rfl)
theorem orN (n : Byte) : Statement (.orN n) := of_bytes rfl rfl (Nat.le_of_ble_eq_true rfl)
theorem rst30 : Statement .rst30 := of_bytes rfl rfl (Nat.le_of_ble_eq_true rfl)
theorem ldHlSpE (e : Byte) : Statement (.ldHlSpE e) := of_bytes rfl rfl (Nat.le_of_ble_eq_true rfl)
theorem ldSpHl : Statement .ldSpHl := of_bytes rfl rfl (Nat.le_of_ble_eq_true rfl)
theorem ldAMNn (nn : Word) : Statement (.ldAMNn nn) := of_bytes rfl rfl (Nat.le_of_ble_eq_true rfl)
theorem ei : Statement .ei := of_bytes rfl rfl (Nat.le_of_ble_eq_true rfl)
theorem illegalFC : Statement .illegalFC := of_bytes rfl rfl (Nat.le_of_ble_eq_true rfl)
theorem illegalFD : Statement .illegalFD := of_bytes rfl rfl (Nat.le_of_ble_eq_true rfl)
theorem cpN (n : Byte) : Statement (.cpN n) := of_bytes rfl rfl (Nat.le_of_ble_eq_true rfl)
theorem rst38 : Statement .rst38 := of_bytes rfl rfl (Nat.le_of_ble_eq_true rfl)
theorem rlcB : Statement .rlcB := of_bytes rfl rfl (Nat.le_of_ble_eq_true rfl)
theorem rlcC : Statement .rlcC := of_bytes rfl rfl (Nat.le_of_ble_eq_true rfl)
theorem rlcD : Statement .rlcD := of_bytes rfl rfl (Nat.le_of_ble_eq_true rfl)
theorem rlcE : Statement .rlcE := of_bytes rfl rfl (Nat.le_of_ble_eq_true rfl)
theorem rlcH : Statement .rlcH := of_bytes rfl rfl (Nat.le_of_ble_eq_true rfl)
theorem rlcL : Statement .rlcL := of_bytes rfl rfl (Nat.le_of_ble_eq_true rfl)
theorem rlcMHl : Statement .rlcMHl := of_bytes rfl rfl (Nat.le_of_ble_eq_true rfl)
theorem rlcA : Statement .rlcA := of_bytes rfl rfl (Nat.le_of_ble_eq_true rfl)
theorem rrcB : Statement .rrcB := of_bytes rfl rfl (Nat.le_of_ble_eq_true rfl)
theorem rrcC : Statement .rrcC := of_bytes rfl rfl (Nat.le_of_ble_eq_true rfl)
theorem rrcD : Statement .rrcD := of_bytes rfl rfl (Nat.le_of_ble_eq_true rfl)
theorem rrcE : Statement .rrcE := of_bytes rfl rfl (Nat.le_of_ble_eq_true rfl)
theorem rrcH : Statement .rrcH := of_bytes rfl rfl (Nat.le_of_ble_eq_true rfl)
theorem rrcL : Statement .rrcL := of_bytes rfl rfl (Nat.le_of_ble_eq_true rfl)
theorem rrcMHl : Statement .rrcMHl := of_bytes rfl rfl (Nat.le_of_ble_eq_true rfl)
theorem rrcA : Statement .rrcA := of_bytes rfl rfl (Nat.le_of_ble_eq_true rfl)
theorem rlB : Statement .rlB := of_bytes rfl rfl (Nat.le_of_ble_eq_true rfl)
theorem rlC : Statement .rlC := of_bytes rfl rfl (Nat.le_of_ble_eq_true rfl)
theorem rlD : Statement .rlD := of_bytes rfl rfl (Nat.le_of_ble_eq_true rfl)
theorem rlE : Statement .rlE := of_bytes rfl rfl (Nat.le_of_ble_eq_true rfl)
theorem rlH : Statement .rlH := of_bytes rfl rfl (Nat.le_of_ble_eq_true rfl)
theorem rlL : Statement .rlL := of_bytes rfl rfl (Nat.le_of_ble_eq_true rfl)
theorem rlMHl : Statement .rlMHl := of_bytes rfl rfl (Nat.le_of_ble_eq_true rfl)
theorem rlA : Statement .rlA := of_bytes rfl rfl (Nat.le_of_ble_eq_true rfl)
theorem rrB : Statement .rrB := of_bytes rfl rfl (Nat.le_of_ble_eq_true rfl)
theorem rrC : Statement .rrC := of_bytes rfl rfl (Nat.le_of_ble_eq_true rfl)
theorem rrD : Statement .rrD := of_bytes rfl rfl (Nat.le_of_ble_eq_true rfl)
theorem rrE : Statement .rrE := of_bytes rfl rfl (Nat.le_of_ble_eq_true rfl)
theorem rrH : Statement .rrH := of_bytes rfl rfl (Nat.le_of_ble_eq_true rfl)
theorem rrL : Statement .rrL := of_bytes rfl rfl (Nat.le_of_ble_eq_true rfl)
theorem rrMHl : Statement .rrMHl := of_bytes rfl rfl (Nat.le_of_ble_eq_true rfl)
theorem rrA : Statement .rrA := of_bytes rfl rfl (Nat.le_of_ble_eq_true rfl)
theorem slaB : Statement .slaB := of_bytes rfl rfl (Nat.le_of_ble_eq_true rfl)
theorem slaC : Statement .slaC := of_bytes rfl rfl (Nat.le_of_ble_eq_true rfl)
theorem slaD : Statement .slaD := of_bytes rfl rfl (Nat.le_of_ble_eq_true rfl)
theorem slaE : Statement .slaE := of_bytes rfl rfl (Nat.le_of_ble_eq_true rfl)
theorem slaH : Statement .slaH := of_bytes rfl rfl (Nat.le_of_ble_eq_true rfl)
theorem slaL : Statement .slaL := of_bytes rfl rfl (Nat.le_of_ble_eq_true rfl)
theorem slaMHl : Statement .slaMHl := of_bytes rfl rfl (Nat.le_of_ble_eq_true rfl)
theorem slaA : Statement .slaA := of_bytes rfl rfl (Nat.le_of_ble_eq_true rfl)
theorem sraB : Statement .sraB := of_bytes rfl rfl (Nat.le_of_ble_eq_true rfl)
theorem sraC : Statement .sraC := of_bytes rfl rfl (Nat.le_of_ble_eq_true rfl)
theorem sraD : Statement .sraD := of_bytes rfl rfl (Nat.le_of_ble_eq_true rfl)
theorem sraE : Statement .sraE := of_bytes rfl rfl (Nat.le_of_ble_eq_true rfl)
theorem sraH : Statement .sraH := of_bytes rfl rfl (Nat.le_of_ble_eq_true rfl)
theorem sraL : Statement .sraL := of_bytes rfl rfl (Nat.le_of_ble_eq_true rfl)
theorem sraMHl : Statement .sraMHl := of_bytes rfl rfl (Nat.le_of_ble_eq_true rfl)
theorem sraA : Statement .sraA := of_bytes rfl rfl (Nat.le_of_ble_eq_true rfl)
theorem swapB : Statement .swapB := of_bytes rfl rfl (Nat.le_of_ble_eq_true rfl)
theorem swapC : Statement .swapC := of_bytes rfl rfl (Nat.le_of_ble_eq_true rfl)
theorem swapD : Statement .swapD := of_bytes rfl rfl (Nat.le_of_ble_eq_true rfl)
theorem swapE : Statement .swapE := of_bytes rfl rfl (Nat.le_of_ble_eq_true rfl)
theorem swapH : Statement .swapH := of_bytes rfl rfl (Nat.le_of_ble_eq_true rfl)
theorem swapL : Statement .swapL := of_bytes rfl rfl (Nat.le_of_ble_eq_true rfl)
theorem swapMHl : Statement .swapMHl := of_bytes rfl rfl (Nat.le_of_ble_eq_true rfl)
theorem swapA : Statement .swapA := of_bytes rfl rfl (Nat.le_of_ble_eq_true rfl)
theorem srlB : Statement .srlB := of_bytes rfl rfl (Nat.le_of_ble_eq_true rfl)
theorem srlC : Statement .srlC := of_bytes rfl rfl (Nat.le_of_ble_eq_true rfl)
theorem srlD : Statement .srlD := of_bytes rfl rfl (Nat.le_of_ble_eq_true rfl)
theorem srlE : Statement .srlE := of_bytes rfl rfl (Nat.le_of_ble_eq_true rfl)
theorem srlH : Statement .srlH := of_bytes rfl rfl (Nat.le_of_ble_eq_true rfl)
theorem srlL : Statement .srlL := of_bytes rfl rfl (Nat.le_of_ble_eq_true rfl)
theorem srlMHl : Statement .srlMHl := of_bytes rfl rfl (Nat.le_of_ble_eq_true rfl)
theorem srlA : Statement .srlA := of_bytes rfl rfl (Nat.le_of_ble_eq_true rfl)
theorem bit0B : Statement .bit0B := of_bytes rfl rfl (Nat.le_of_ble_eq_true rfl)
theorem bit0C : Statement .bit0C := of_bytes rfl rfl (Nat.le_of_ble_eq_true rfl)
theorem bit0D : Statement .bit0D := of_bytes rfl rfl (Nat.le_of_ble_eq_true rfl)
theorem bit0E : Statement .bit0E := of_bytes rfl rfl (Nat.le_of_ble_eq_true rfl)
theorem bit0H : Statement .bit0H := of_bytes rfl rfl (Nat.le_of_ble_eq_true rfl)
theorem bit0L : Statement .bit0L := of_bytes rfl rfl (Nat.le_of_ble_eq_true rfl)
theorem bit0MHl : Statement .bit0MHl := of_bytes rfl rfl (Nat.le_of_ble_eq_true rfl)
theorem bit0A : Statement .bit0A := of_bytes rfl rfl (Nat.le_of_ble_eq_true rfl)
theorem bit1B : Statement .bit1B := of_bytes rfl rfl (Nat.le_of_ble_eq_true rfl)
theorem bit1C : Statement .bit1C := of_bytes rfl rfl (Nat.le_of_ble_eq_true rfl)
theorem bit1D : Statement .bit1D := of_bytes rfl rfl (Nat.le_of_ble_eq_true rfl)
theorem bit1E : Statement .bit1E := of_bytes rfl rfl (Nat.le_of_ble_eq_true rfl)
theorem bit1H : Statement .bit1H := of_bytes rfl rfl (Nat.le_of_ble_eq_true rfl)
theorem bit1L : Statement .bit1L := of_bytes rfl rfl (Nat.le_of_ble_eq_true rfl)
theorem bit1MHl : Statement .bit1MHl := of_bytes rfl rfl (Nat.le_of_ble_eq_true rfl)
theorem bit1A : Statement .bit1A := of_bytes rfl rfl (Nat.le_of_ble_eq_true rfl)
theorem bit2B : Statement .bit2B := of_bytes rfl rfl (Nat.le_of_ble_eq_true rfl)
theorem bit2C : Statement .bit2C := of_bytes rfl rfl (Nat.le_of_ble_eq_true rfl)
theorem bit2D : Statement .bit2D := of_bytes rfl rfl (Nat.le_of_ble_eq_true rfl)
theorem bit2E : Statement .bit2E := of_bytes rfl rfl (Nat.le_of_ble_eq_true rfl)
theorem bit2H : Statement .bit2H := of_bytes rfl rfl (Nat.le_of_ble_eq_true rfl)
theorem bit2L : Statement .bit2L := of_bytes rfl rfl (Nat.le_of_ble_eq_true rfl)
theorem bit2MHl : Statement .bit2MHl := of_bytes rfl rfl (Nat.le_of_ble_eq_true rfl)
theorem bit2A : Statement .bit2A := of_bytes rfl rfl (Nat.le_of_ble_eq_true rfl)
theorem bit3B : Statement .bit3B := of_bytes rfl rfl (Nat.le_of_ble_eq_true rfl)
theorem bit3C : Statement .bit3C := of_bytes rfl rfl (Nat.le_of_ble_eq_true rfl)
theorem bit3D : Statement .bit3D := of_bytes rfl rfl (Nat.le_of_ble_eq_true rfl)
theorem bit3E : Statement .bit3E := of_bytes rfl rfl (Nat.le_of_ble_eq_true rfl)
theorem bit3H : Statement .bit3H := of_bytes rfl rfl (Nat.le_of_ble_eq_true rfl)
theorem bit3L : Statement .bit3L := of_bytes rfl rfl (Nat.le_of_ble_eq_true rfl)
theorem bit3MHl : Statement .bit3MHl := of_bytes rfl rfl (Nat.le_of_ble_eq_true rfl)
theorem bit3A : Statement .bit3A := of_bytes rfl rfl (Nat.le_of_ble_eq_true rfl)
theorem bit4B : Statement .bit4B := of_bytes rfl rfl (Nat.le_of_ble_eq_true rfl)
theorem bit4C : Statement .bit4C := of_bytes rfl rfl (Nat.le_of_ble_eq_true rfl)
theorem bit4D : Statement .bit4D := of_bytes rfl rfl (Nat.le_of_ble_eq_true rfl)
theorem bit4E : Statement .bit4E := of_bytes rfl rfl (Nat.le_of_ble_eq_true rfl)
theorem bit4H : Statement .bit4H := of_bytes rfl rfl (Nat.le_of_ble_eq_true rfl)
theorem bit4L : Statement .bit4L := of_bytes rfl rfl (Nat.le_of_ble_eq_true rfl)
theorem bit4MHl : Statement .bit4MHl := of_bytes rfl rfl (Nat.le_of_ble_eq_true rfl)
theorem bit4A : Statement .bit4A := of_bytes rfl rfl (Nat.le_of_ble_eq_true rfl)
theorem bit5B : Statement .bit5B := of_bytes rfl rfl (Nat.le_of_ble_eq_true rfl)
theorem bit5C : Statement .bit5C := of_bytes rfl rfl (Nat.le_of_ble_eq_true rfl)
theorem bit5D : Statement .bit5D := of_bytes rfl rfl (Nat.le_of_ble_eq_true rfl)
theorem bit5E : Statement .bit5E := of_bytes rfl rfl (Nat.le_of_ble_eq_true rfl)
theorem bit5H : Statement .bit5H := of_bytes rfl rfl (Nat.le_of_ble_eq_true rfl)
theorem bit5L : Statement .bit5L := of_bytes rfl rfl (Nat.le_of_ble_eq_true rfl)
theorem bit5MHl : Statement .bit5MHl := of_bytes rfl rfl (Nat.le_of_ble_eq_true rfl)
theorem bit5A : Statement .bit5A := of_bytes rfl rfl (Nat.le_of_ble_eq_true rfl)
theorem bit6B : Statement .bit6B := of_bytes rfl rfl (Nat.le_of_ble_eq_true rfl)
theorem bit6C : Statement .bit6C := of_bytes rfl rfl (Nat.le_of_ble_eq_true rfl)
theorem bit6D : Statement .bit6D := of_bytes rfl rfl (Nat.le_of_ble_eq_true rfl)
theorem bit6E : Statement .bit6E := of_bytes rfl rfl (Nat.le_of_ble_eq_true rfl)
theorem bit6H : Statement .bit6H := of_bytes rfl rfl (Nat.le_of_ble_eq_true rfl)
theorem bit6L : Statement .bit6L := of_bytes rfl rfl (Nat.le_of_ble_eq_true rfl)
theorem bit6MHl : Statement .bit6MHl := of_bytes rfl rfl (Nat.le_of_ble_eq_true rfl)
theorem bit6A : Statement .bit6A := of_bytes rfl rfl (Nat.le_of_ble_eq_true rfl)
theorem bit7B : Statement .bit7B := of_bytes rfl rfl (Nat.le_of_ble_eq_true rfl)
theorem bit7C : Statement .bit7C := of_bytes rfl rfl (Nat.le_of_ble_eq_true rfl)
theorem bit7D : Statement .bit7D := of_bytes rfl rfl (Nat.le_of_ble_eq_true rfl)
theorem bit7E : Statement .bit7E := of_bytes rfl rfl (Nat.le_of_ble_eq_true rfl)
theorem bit7H : Statement .bit7H := of_bytes rfl rfl (Nat.le_of_ble_eq_true rfl)
theorem bit7L : Statement .bit7L := of_bytes rfl rfl (Nat.le_of_ble_eq_true rfl)
theorem bit7MHl : Statement .bit7MHl := of_bytes rfl rfl (Nat.le_of_ble_eq_true rfl)
theorem bit7A : Statement .bit7A := of_bytes rfl rfl (Nat.le_of_ble_eq_true rfl)
theorem res0B : Statement .res0B := of_bytes rfl rfl (Nat.le_of_ble_eq_true rfl)
theorem res0C : Statement .res0C := of_bytes rfl rfl (Nat.le_of_ble_eq_true rfl)
theorem res0D : Statement .res0D := of_bytes rfl rfl (Nat.le_of_ble_eq_true rfl)
theorem res0E : Statement .res0E := of_bytes rfl rfl (Nat.le_of_ble_eq_true rfl)
theorem res0H : Statement .res0H := of_bytes rfl rfl (Nat.le_of_ble_eq_true rfl)
theorem res0L : Statement .res0L := of_bytes rfl rfl (Nat.le_of_ble_eq_true rfl)
theorem res0MHl : Statement .res0MHl := of_bytes rfl rfl (Nat.le_of_ble_eq_true rfl)
theorem res0A : Statement .res0A := of_bytes rfl rfl (Nat.le_of_ble_eq_true rfl)
theorem res1B : Statement .res1B := of_bytes rfl rfl (Nat.le_of_ble_eq_true rfl)
theorem res1C : Statement .res1C := of_bytes rfl rfl (Nat.le_of_ble_eq_true rfl)
theorem res1D : Statement .res1D := of_bytes rfl rfl (Nat.le_of_ble_eq_true rfl)
theorem res1E : Statement .res1E := of_bytes rfl rfl (Nat.le_of_ble_eq_true rfl)
theorem res1H : Statement .res1H := of_bytes rfl rfl (Nat.le_of_ble_eq_true rfl)
theorem res1L : Statement .res1L := of_bytes rfl rfl (Nat.le_of_ble_eq_true rfl)
theorem res1MHl : Statement .res1MHl := of_bytes rfl rfl (Nat.le_of_ble_eq_true rfl)
theorem res1A : Statement .res1A := of_bytes rfl rfl (Nat.le_of_ble_eq_true rfl)
theorem res2B : Statement .res2B := of_bytes rfl rfl (Nat.le_of_ble_eq_true rfl)
theorem res2C : Statement .res2C := of_bytes rfl rfl (Nat.le_of_ble_eq_true rfl)
theorem res2D : Statement .res2D := of_bytes rfl rfl (Nat.le_of_ble_eq_true rfl)
theorem res2E : Statement .res2E := of_bytes rfl rfl (Nat.le_of_ble_eq_true rfl)
theorem res2H : Statement .res2H := of_bytes rfl rfl (Nat.le_of_ble_eq_true rfl)
theorem res2L : Statement .res2L := of_bytes rfl rfl (Nat.le_of_ble_eq_true rfl)
theorem res2MHl : Statement .res2MHl := of_bytes rfl rfl (Nat.le_of_ble_eq_true rfl)
theorem res2A : Statement .res2A := of_bytes rfl rfl (Nat.le_of_ble_eq_true rfl)
theorem res3B : Statement .res3B := of_bytes rfl rfl (Nat.le_of_ble_eq_true rfl)
theorem res3C : Statement .res3C := of_bytes rfl rfl (Nat.le_of_ble_eq_true rfl)
theorem res3D : Statement .res3D := of_bytes rfl rfl (Nat.le_of_ble_eq_true rfl)
theorem res3E : Statement .res3E := of_bytes rfl rfl (Nat.le_of_ble_eq_true rfl)
theorem res3H : Statement .res3H := of_bytes rfl rfl (Nat.le_of_ble_eq_true rfl)
theorem res3L : Statement .res3L := of_bytes rfl rfl (Nat.le_of_ble_eq_true rfl)
theorem res3MHl : Statement .res3MHl := of_bytes rfl rfl (Nat.le_of_ble_eq_true rfl)
theorem res3A : Statement .res3A := of_bytes rfl rfl (Nat.le_of_ble_eq_true rfl)
theorem res4B : Statement .res4B := of_bytes rfl rfl (Nat.le_of_ble_eq_true rfl)
theorem res4C : Statement .res4C := of_bytes rfl rfl (Nat.le_of_ble_eq_true rfl)
theorem res4D : Statement .res4D := of_bytes rfl rfl (Nat.le_of_ble_eq_true rfl)
theorem res4E : Statement .res4E := of_bytes rfl rfl (Nat.le_of_ble_eq_true rfl)
theorem res4H : Statement .res4H := of_bytes rfl rfl (Nat.le_of_ble_eq_true rfl)
theorem res4L : Statement .res4L := of_bytes rfl rfl (Nat.le_of_ble_eq_true rfl)
theorem res4MHl : Statement .res4MHl := of_bytes rfl rfl (Nat.le_of_ble_eq_true rfl)
theorem res4A : Statement .res4A := of_bytes rfl rfl (Nat.le_of_ble_eq_true rfl)
theorem res5B : Statement .res5B := of_bytes rfl rfl (Nat.le_of_ble_eq_true rfl)
theorem res5C : Statement .res5C := of_bytes rfl rfl (Nat.le_of_ble_eq_true rfl)
theorem res5D : Statement .res5D := of_bytes rfl rfl (Nat.le_of_ble_eq_true rfl)
theorem res5E : Statement .res5E := of_bytes rfl rfl (Nat.le_of_ble_eq_true rfl)
theorem res5H : Statement .res5H := of_bytes rfl rfl (Nat.le_of_ble_eq_true rfl)
theorem res5L : Statement .res5L := of_bytes rfl rfl (Nat.le_of_ble_eq_true rfl)
theorem res5MHl : Statement .res5MHl := of_bytes rfl rfl (Nat.le_of_ble_eq_true rfl)
theorem res5A : Statement .res5A := of_bytes rfl rfl (Nat.le_of_ble_eq_true rfl)
theorem res6B : Statement .res6B := of_bytes rfl rfl (Nat.le_of_ble_eq_true rfl)
theorem res6C : Statement .res6C := of_bytes rfl rfl (Nat.le_of_ble_eq_true rfl)
theorem res6D : Statement .res6D := of_bytes rfl rfl (Nat.le_of_ble_eq_true rfl)
theorem res6E : Statement .res6E := of_bytes rfl rfl (Nat.le_of_ble_eq_true rfl)
theorem res6H : Statement .res6H := of_bytes rfl rfl (Nat.le_of_ble_eq_true rfl)
theorem res6L : Statement .res6L := of_bytes rfl rfl (Nat.le_of_ble_eq_true rfl)
theorem res6MHl : Statement .res6MHl := of_bytes rfl rfl (Nat.le_of_ble_eq_true rfl)
theorem res6A : Statement .res6A := of_bytes rfl rfl (Nat.le_of_ble_eq_true rfl)
theorem res7B : Statement .res7B := of_bytes rfl rfl (Nat.le_of_ble_eq_true rfl)
theorem res7C : Statement .res7C := of_bytes rfl rfl (Nat.le_of_ble_eq_true rfl)
theorem res7D : Statement .res7D := of_bytes rfl rfl (Nat.le_of_ble_eq_true rfl)
theorem res7E : Statement .res7E := of_bytes rfl rfl (Nat.le_of_ble_eq_true rfl)
theorem res7H : Statement .res7H := of_bytes rfl rfl (Nat.le_of_ble_eq_true rfl)
theorem res7L : Statement .res7L := of_bytes rfl rfl (Nat.le_of_ble_eq_true rfl)
theorem res7MHl : Statement .res7MHl := of_bytes rfl rfl (Nat.le_of_ble_eq_true rfl)
theorem res7A : Statement .res7A := of_bytes rfl rfl (Nat.le_of_ble_eq_true rfl)
theorem set0B : Statement .set0B := of_bytes rfl rfl (Nat.le_of_ble_eq_true rfl)
theorem set0C : Statement .set0C := of_bytes rfl rfl (Nat.le_of_ble_eq_true rfl)
theorem set0D : Statement .set0D := of_bytes rfl rfl (Nat.le_of_ble_eq_true rfl)
theorem set0E : Statement .set0E := of_bytes rfl rfl (Nat.le_of_ble_eq_true rfl)
theorem set0H : Statement .set0H := of_bytes rfl rfl (Nat.le_of_ble_eq_true rfl)
theorem set0L : Statement .set0L := of_bytes rfl rfl (Nat.le_of_ble_eq_true rfl)
theorem set0MHl : Statement .set0MHl := of_bytes rfl rfl (Nat.le_of_ble_eq_true rfl)
theorem set0A : Statement .set0A := of_bytes rfl rfl (Nat.le_of_ble_eq_true rfl)
theorem set1B : Statement .set1B := of_bytes rfl rfl (Nat.le_of_ble_eq_true rfl)
theorem set1C : Statement .set1C := of_bytes rfl rfl (Nat.le_of_ble_eq_true rfl)
theorem set1D : Statement .set1D := of_bytes rfl rfl (Nat.le_of_ble_eq_true rfl)
theorem set1E : Statement .set1E := of_bytes rfl rfl (Nat.le_of_ble_eq_true rfl)
theorem set1H : Statement .set1H := of_bytes rfl rfl (Nat.le_of_ble_eq_true rfl)
theorem set1L : Statement .set1L := of_bytes rfl rfl (Nat.le_of_ble_eq_true rfl)
theorem set1MHl : Statement .set1MHl := of_bytes rfl rfl (Nat.le_of_ble_eq_true rfl)
theorem set1A : Statement .set1A := of_bytes rfl rfl (Nat.le_of_ble_eq_true rfl)
theorem set2B : Statement .set2B := of_bytes rfl rfl (Nat.le_of_ble_eq_true rfl)
theorem set2C : Statement .set2C := of_bytes rfl rfl (Nat.le_of_ble_eq_true rfl)
theorem set2D : Statement .set2D := of_bytes rfl rfl (Nat.le_of_ble_eq_true rfl)
theorem set2E : Statement .set2E := of_bytes rfl rfl (Nat.le_of_ble_eq_true rfl)
theorem set2H : Statement .set2H := of_bytes rfl rfl (Nat.le_of_ble_eq_true rfl)
theorem set2L : Statement .set2L := of_bytes rfl rfl (Nat.le_of_ble_eq_true rfl)
theorem set2MHl : Statement .set2MHl := of_bytes rfl rfl (Nat.le_of_ble_eq_true rfl)
theorem set2A : Statement .set2A := of_bytes rfl rfl (Nat.le_of_ble_eq_true rfl)
theorem set3B : Statement .set3B := of_bytes rfl rfl (Nat.le_of_ble_eq_true rfl)
theorem set3C : Statement .set3C := of_bytes rfl rfl (Nat.le_of_ble_eq_true rfl)
theorem set3D : Statement .set3D := of_bytes rfl rfl (Nat.le_of_ble_eq_true rfl)
theorem set3E : Statement .set3E := of_bytes rfl rfl (Nat.le_of_ble_eq_true rfl)
theorem set3H : Statement .set3H := of_bytes rfl rfl (Nat.le_of_ble_eq_true rfl)
theorem set3L : Statement .set3L := of_bytes rfl rfl (Nat.le_of_ble_eq_true rfl)
theorem set3MHl : Statement .set3MHl := of_bytes rfl rfl (Nat.le_of_ble_eq_true rfl)
theorem set3A : Statement .set3A := of_bytes rfl rfl (Nat.le_of_ble_eq_true rfl)
theorem set4B : Statement .set4B := of_bytes rfl rfl (Nat.le_of_ble_eq_true rfl)
theorem set4C : Statement .set4C := of_bytes rfl rfl (Nat.le_of_ble_eq_true rfl)
theorem set4D : Statement .set4D := of_bytes rfl rfl (Nat.le_of_ble_eq_true rfl)
theorem set4E : Statement .set4E := of_bytes rfl rfl (Nat.le_of_ble_eq_true rfl)
theorem set4H : Statement .set4H := of_bytes rfl rfl (Nat.le_of_ble_eq_true rfl)
theorem set4L : Statement .set4L := of_bytes rfl rfl (Nat.le_of_ble_eq_true rfl)
theorem set4MHl : Statement .set4MHl := of_bytes rfl rfl (Nat.le_of_ble_eq_true rfl)
theorem set4A : Statement .set4A := of_bytes rfl rfl (Nat.le_of_ble_eq_true rfl)
theorem set5B : Statement .set5B := of_bytes rfl rfl (Nat.le_of_ble_eq_true rfl)
theorem set5C : Statement .set5C := of_bytes rfl rfl (Nat.le_of_ble_eq_true rfl)
theorem set5D : Statement .set5D := of_bytes rfl rfl (Nat.le_of_ble_eq_true rfl)
theorem set5E : Statement .set5E := of_bytes rfl rfl (Nat.le_of_ble_eq_true rfl)
theorem set5H : Statement .set5H := of_bytes rfl rfl (Nat.le_of_ble_eq_true rfl)
theorem set5L : Statement .set5L := of_bytes rfl rfl (Nat.le_of_ble_eq_true rfl)
theorem set5MHl : Statement .set5MHl := of_bytes rfl rfl (Nat.le_of_ble_eq_true rfl)
theorem set5A : Statement .set5A := of_bytes rfl rfl (Nat.le_of_ble_eq_true rfl)
theorem set6B : Statement .set6B := of_bytes rfl rfl (Nat.le_of_ble_eq_true rfl)
theorem set6C : Statement .set6C := of_bytes rfl rfl (Nat.le_of_ble_eq_true rfl)
theorem set6D : Statement .set6D := of_bytes rfl rfl (Nat.le_of_ble_eq_true rfl)
theorem set6E : Statement .set6E := of_bytes rfl rfl (Nat.le_of_ble_eq_true rfl)
theorem set6H : Statement .set6H := of_bytes rfl rfl (Nat.le_of_ble_eq_true rfl)
theorem set6L : Statement .set6L := of_bytes rfl rfl (Nat.le_of_ble_eq_true rfl)
theorem set6MHl : Statement .set6MHl := of_bytes rfl rfl (Nat.le_of_ble_eq_true rfl)
theorem set6A : Statement .set6A := of_bytes rfl rfl (Nat.le_of_ble_eq_true rfl)
theorem set7B : Statement .set7B := of_bytes rfl rfl (Nat.le_of_ble_eq_true rfl)
theorem set7C : Statement .set7C := of_bytes rfl rfl (Nat.le_of_ble_eq_true rfl)
theorem set7D : Statement .set7D := of_bytes rfl rfl (Nat.le_of_ble_eq_true rfl)
theorem set7E : Statement .set7E := of_bytes rfl rfl (Nat.le_of_ble_eq_true rfl)
theorem set7H : Statement .set7H := of_bytes rfl rfl (Nat.le_of_ble_eq_true rfl)
theorem set7L : Statement .set7L := of_bytes rfl rfl (Nat.le_of_ble_eq_true rfl)
theorem set7MHl : Statement .set7MHl := of_bytes rfl rfl (Nat.le_of_ble_eq_true rfl)
theorem set7A : Statement .set7A := of_bytes rfl rfl (Nat.le_of_ble_eq_true rfl)

end Sys2Proof.Laws.EncodedLength
end

