-- ==== Sys2Proof/Laws/Render.lean ====
section
/-! SUPPORT. The renderer: its pixels as numbers, and what it does not depend on. -/

namespace Sys2Proof.Machine

/-- The pixel `x` of a row (R366). -/
theorem renderRow_get (p : Ppu) (mem : Memory) (ly x : Nat) (hx : x < 160) :
    (renderRow p mem ly)[x] = pixelShade p mem (selectSprites p mem ly) ly x := by
  unfold renderRow
  exact Vector.getElem_ofFn _

/-- A tile's pixel as a number (R354). -/
theorem tilePixel_eq (mem : Memory) (base r c : Nat) :
    tilePixel mem base r c =
      BitVec.ofNat 2
        (2 * ((mem.read (base + 2 * r + 1)).toNat / 2 ^ (7 - c) % 2) +
          (mem.read (base + 2 * r)).toNat / 2 ^ (7 - c) % 2) := by
  have bit : ∀ (b : Byte) (k : Nat), (b.getLsbD k).toNat = b.toNat / 2 ^ k % 2 := fun b k => by
    rw [BitVec.getLsbD, Nat.toNat_testBit]
  have two : ∀ a b : Bool, BitVec.ofBool a ++ BitVec.ofBool b = BitVec.ofNat 2 (2 * a.toNat + b.toNat) := by decide
  unfold tilePixel
  rw [← bit, ← bit]
  exact two _ _

/-- A shade as a number (R361). -/
theorem shadeOf_eq (pal : Byte) {ci : Nat} (h : ci < 4) :
    shadeOf pal (BitVec.ofNat 2 ci) = BitVec.ofNat 2 (pal.toNat / 4 ^ ci % 4) := by
  revert pal
  interval_cases ci <;> decide +kernel

/-- A pixel does not depend on the place in the frame or the mode. -/
theorem pixelShade_place (p : Ppu) (mem : Memory) (d : Nat) (m : Mode) (ly x : Nat) (sel : List Sprite) :
    pixelShade { p with dot := d, mode := m } mem sel ly x = pixelShade p mem sel ly x := by
  have h : ∀ ci sh,
      spriteOver { p with dot := d, mode := m } mem ly x ci sh sel = spriteOver p mem ly x ci sh sel := by
    intro ci sh
    induction sel with
    | nil => rfl
    | cons o os ih =>
      have hp : spritePixel { p with dot := d, mode := m } mem o ly x = spritePixel p mem o ly x := by
        unfold spritePixel spriteHeight tileBase; rfl
      unfold spriteOver; rw [hp, ih]
  unfold pixelShade
  rw [h]
  rfl

/-- A row does not depend on the place in the frame or the mode (R351). -/
theorem renderRow_place (p : Ppu) (mem : Memory) (d : Nat) (m : Mode) (ly : Nat) :
    renderRow { p with dot := d, mode := m } mem ly = renderRow p mem ly := by
  have hs : selectSprites { p with dot := d, mode := m } mem ly = selectSprites p mem ly := by
    unfold selectSprites spriteHeight; rfl
  unfold renderRow
  dsimp only
  rw [hs]
  exact congrArg Vector.ofFn (funext fun x => pixelShade_place _ _ _ _ _ _ _)

end Sys2Proof.Machine
end

