-- ==== Sys2Proof/Tests/Slice0.lean ====
section
/-! SUPPORT. The model's own tests: ill-formed terms refused, every row of the opcode maps decoded from its written-out word,
single steps against the vectors of 95_test_vectors.md, and a state and operands that meet the hypotheses of each statement
that has any, at the boundaries of its clauses. -/

namespace Sys2Proof.Tests

open Sys2Proof.Machine

/-! ## Well-formedness (R115) -/

theorem test_wf_refuses_each_unassigned_row :
    [Instr.illegalD3, .illegalDB, .illegalDD, .illegalE3, .illegalE4, .illegalEB, .illegalEC, .illegalED, .illegalF4,
      .illegalFC, .illegalFD].all (fun i => i.wf == false) = true := by decide

theorem test_wf_takes_an_instruction : Instr.nop.wf = true ∧ (Instr.stop 0xFF).wf = true ∧ Instr.set7A.wf = true := by decide

/-! ## Decoding: every word of the opcode maps (R113, R114), with `0x34, 0x12` after it -/

theorem test_decode_0x :
    [0x00, 0x01, 0x02, 0x03, 0x04, 0x05, 0x06, 0x07, 0x08, 0x09, 0x0A, 0x0B, 0x0C, 0x0D, 0x0E, 0x0F].map (fun b => decodeBytes b 0x34 0x12) =
      [.nop, .ldBcNn 0x1234, .ldMBcA, .incBc, .incB, .decB, .ldBN 0x34, .rlca, .ldMNnSp 0x1234, .addHlBc, .ldAMBc,
       .decBc, .incC, .decC, .ldCN 0x34, .rrca] := by decide

theorem test_decode_1x :
    [0x10, 0x11, 0x12, 0x13, 0x14, 0x15, 0x16, 0x17, 0x18, 0x19, 0x1A, 0x1B, 0x1C, 0x1D, 0x1E, 0x1F].map (fun b => decodeBytes b 0x34 0x12) =
      [.stop 0x34, .ldDeNn 0x1234, .ldMDeA, .incDe, .incD, .decD, .ldDN 0x34, .rla, .jrE 0x34, .addHlDe, .ldAMDe,
       .decDe, .incE, .decE, .ldEN 0x34, .rra] := by decide

theorem test_decode_2x :
    [0x20, 0x21, 0x22, 0x23, 0x24, 0x25, 0x26, 0x27, 0x28, 0x29, 0x2A, 0x2B, 0x2C, 0x2D, 0x2E, 0x2F].map (fun b => decodeBytes b 0x34 0x12) =
      [.jrNzE 0x34, .ldHlNn 0x1234, .ldMHliA, .incHl, .incH, .decH, .ldHN 0x34, .daa, .jrZE 0x34, .addHlHl, .ldAMHli,
       .decHl, .incL, .decL, .ldLN 0x34, .cpl] := by decide

theorem test_decode_3x :
    [0x30, 0x31, 0x32, 0x33, 0x34, 0x35, 0x36, 0x37, 0x38, 0x39, 0x3A, 0x3B, 0x3C, 0x3D, 0x3E, 0x3F].map (fun b => decodeBytes b 0x34 0x12) =
      [.jrNcE 0x34, .ldSpNn 0x1234, .ldMHldA, .incSp, .incMHl, .decMHl, .ldMHlN 0x34, .scf, .jrCE 0x34, .addHlSp,
       .ldAMHld, .decSp, .incA, .decA, .ldAN 0x34, .ccf] := by decide

theorem test_decode_4x :
    [0x40, 0x41, 0x42, 0x43, 0x44, 0x45, 0x46, 0x47, 0x48, 0x49, 0x4A, 0x4B, 0x4C, 0x4D, 0x4E, 0x4F].map (fun b => decodeBytes b 0x34 0x12) =
      [.ldBB, .ldBC, .ldBD, .ldBE, .ldBH, .ldBL, .ldBMHl, .ldBA, .ldCB, .ldCC, .ldCD, .ldCE, .ldCH, .ldCL, .ldCMHl,
       .ldCA] := by decide

theorem test_decode_5x :
    [0x50, 0x51, 0x52, 0x53, 0x54, 0x55, 0x56, 0x57, 0x58, 0x59, 0x5A, 0x5B, 0x5C, 0x5D, 0x5E, 0x5F].map (fun b => decodeBytes b 0x34 0x12) =
      [.ldDB, .ldDC, .ldDD, .ldDE, .ldDH, .ldDL, .ldDMHl, .ldDA, .ldEB, .ldEC, .ldED, .ldEE, .ldEH, .ldEL, .ldEMHl,
       .ldEA] := by decide

theorem test_decode_6x :
    [0x60, 0x61, 0x62, 0x63, 0x64, 0x65, 0x66, 0x67, 0x68, 0x69, 0x6A, 0x6B, 0x6C, 0x6D, 0x6E, 0x6F].map (fun b => decodeBytes b 0x34 0x12) =
      [.ldHB, .ldHC, .ldHD, .ldHE, .ldHH, .ldHL, .ldHMHl, .ldHA, .ldLB, .ldLC, .ldLD, .ldLE, .ldLH, .ldLL, .ldLMHl,
       .ldLA] := by decide

theorem test_decode_7x :
    [0x70, 0x71, 0x72, 0x73, 0x74, 0x75, 0x76, 0x77, 0x78, 0x79, 0x7A, 0x7B, 0x7C, 0x7D, 0x7E, 0x7F].map (fun b => decodeBytes b 0x34 0x12) =
      [.ldMHlB, .ldMHlC, .ldMHlD, .ldMHlE, .ldMHlH, .ldMHlL, .halt, .ldMHlA, .ldAB, .ldAC, .ldAD, .ldAE, .ldAH, .ldAL,
       .ldAMHl, .ldAA] := by decide

theorem test_decode_8x :
    [0x80, 0x81, 0x82, 0x83, 0x84, 0x85, 0x86, 0x87, 0x88, 0x89, 0x8A, 0x8B, 0x8C, 0x8D, 0x8E, 0x8F].map (fun b => decodeBytes b 0x34 0x12) =
      [.addAB, .addAC, .addAD, .addAE, .addAH, .addAL, .addAMHl, .addAA, .adcAB, .adcAC, .adcAD, .adcAE, .adcAH,
       .adcAL, .adcAMHl, .adcAA] := by decide

theorem test_decode_9x :
    [0x90, 0x91, 0x92, 0x93, 0x94, 0x95, 0x96, 0x97, 0x98, 0x99, 0x9A, 0x9B, 0x9C, 0x9D, 0x9E, 0x9F].map (fun b => decodeBytes b 0x34 0x12) =
      [.subB, .subC, .subD, .subE, .subH, .subL, .subMHl, .subA, .sbcAB, .sbcAC, .sbcAD, .sbcAE, .sbcAH, .sbcAL,
       .sbcAMHl, .sbcAA] := by decide

theorem test_decode_Ax :
    [0xA0, 0xA1, 0xA2, 0xA3, 0xA4, 0xA5, 0xA6, 0xA7, 0xA8, 0xA9, 0xAA, 0xAB, 0xAC, 0xAD, 0xAE, 0xAF].map (fun b => decodeBytes b 0x34 0x12) =
      [.andB, .andC, .andD, .andE, .andH, .andL, .andMHl, .andA, .xorB, .xorC, .xorD, .xorE, .xorH, .xorL, .xorMHl,
       .xorA] := by decide

theorem test_decode_Bx :
    [0xB0, 0xB1, 0xB2, 0xB3, 0xB4, 0xB5, 0xB6, 0xB7, 0xB8, 0xB9, 0xBA, 0xBB, 0xBC, 0xBD, 0xBE, 0xBF].map (fun b => decodeBytes b 0x34 0x12) =
      [.orB, .orC, .orD, .orE, .orH, .orL, .orMHl, .orA, .cpB, .cpC, .cpD, .cpE, .cpH, .cpL, .cpMHl, .cpA] := by decide

theorem test_decode_Cx :
    [0xC0, 0xC1, 0xC2, 0xC3, 0xC4, 0xC5, 0xC6, 0xC7, 0xC8, 0xC9, 0xCA, 0xCC, 0xCD, 0xCE, 0xCF].map (fun b => decodeBytes b 0x34 0x12) =
      [.retNz, .popBc, .jpNzNn 0x1234, .jpNn 0x1234, .callNzNn 0x1234, .pushBc, .addAN 0x34, .rst00, .retZ, .ret,
       .jpZNn 0x1234, .callZNn 0x1234, .callNn 0x1234, .adcAN 0x34, .rst08] := by decide

theorem test_decode_Dx :
    [0xD0, 0xD1, 0xD2, 0xD3, 0xD4, 0xD5, 0xD6, 0xD7, 0xD8, 0xD9, 0xDA, 0xDB, 0xDC, 0xDD, 0xDE, 0xDF].map (fun b => decodeBytes b 0x34 0x12) =
      [.retNc, .popDe, .jpNcNn 0x1234, .illegalD3, .callNcNn 0x1234, .pushDe, .subN 0x34, .rst10, .retC, .reti,
       .jpCNn 0x1234, .illegalDB, .callCNn 0x1234, .illegalDD, .sbcAN 0x34, .rst18] := by decide

theorem test_decode_Ex :
    [0xE0, 0xE1, 0xE2, 0xE3, 0xE4, 0xE5, 0xE6, 0xE7, 0xE8, 0xE9, 0xEA, 0xEB, 0xEC, 0xED, 0xEE, 0xEF].map (fun b => decodeBytes b 0x34 0x12) =
      [.ldhMNA 0x34, .popHl, .ldhMCA, .illegalE3, .illegalE4, .pushHl, .andN 0x34, .rst20, .addSpE 0x34, .jpHl,
       .ldMNnA 0x1234, .illegalEB, .illegalEC, .illegalED, .xorN 0x34, .rst28] := by decide

theorem test_decode_Fx :
    [0xF0, 0xF1, 0xF2, 0xF3, 0xF4, 0xF5, 0xF6, 0xF7, 0xF8, 0xF9, 0xFA, 0xFB, 0xFC, 0xFD, 0xFE, 0xFF].map (fun b => decodeBytes b 0x34 0x12) =
      [.ldhAMN 0x34, .popAf, .ldhAMC, .di, .illegalF4, .pushAf, .orN 0x34, .rst30, .ldHlSpE 0x34, .ldSpHl,
       .ldAMNn 0x1234, .ei, .illegalFC, .illegalFD, .cpN 0x34, .rst38] := by decide

theorem test_decode_cb_0x :
    [0x00, 0x01, 0x02, 0x03, 0x04, 0x05, 0x06, 0x07, 0x08, 0x09, 0x0A, 0x0B, 0x0C, 0x0D, 0x0E, 0x0F].map (fun b => decodeBytes 0xCB b 0x12) =
      [.rlcB, .rlcC, .rlcD, .rlcE, .rlcH, .rlcL, .rlcMHl, .rlcA, .rrcB, .rrcC, .rrcD, .rrcE, .rrcH, .rrcL, .rrcMHl,
       .rrcA] := by decide

theorem test_decode_cb_1x :
    [0x10, 0x11, 0x12, 0x13, 0x14, 0x15, 0x16, 0x17, 0x18, 0x19, 0x1A, 0x1B, 0x1C, 0x1D, 0x1E, 0x1F].map (fun b => decodeBytes 0xCB b 0x12) =
      [.rlB, .rlC, .rlD, .rlE, .rlH, .rlL, .rlMHl, .rlA, .rrB, .rrC, .rrD, .rrE, .rrH, .rrL, .rrMHl, .rrA] := by decide

theorem test_decode_cb_2x :
    [0x20, 0x21, 0x22, 0x23, 0x24, 0x25, 0x26, 0x27, 0x28, 0x29, 0x2A, 0x2B, 0x2C, 0x2D, 0x2E, 0x2F].map (fun b => decodeBytes 0xCB b 0x12) =
      [.slaB, .slaC, .slaD, .slaE, .slaH, .slaL, .slaMHl, .slaA, .sraB, .sraC, .sraD, .sraE, .sraH, .sraL, .sraMHl,
       .sraA] := by decide

theorem test_decode_cb_3x :
    [0x30, 0x31, 0x32, 0x33, 0x34, 0x35, 0x36, 0x37, 0x38, 0x39, 0x3A, 0x3B, 0x3C, 0x3D, 0x3E, 0x3F].map (fun b => decodeBytes 0xCB b 0x12) =
      [.swapB, .swapC, .swapD, .swapE, .swapH, .swapL, .swapMHl, .swapA, .srlB, .srlC, .srlD, .srlE, .srlH, .srlL,
       .srlMHl, .srlA] := by decide

theorem test_decode_cb_4x :
    [0x40, 0x41, 0x42, 0x43, 0x44, 0x45, 0x46, 0x47, 0x48, 0x49, 0x4A, 0x4B, 0x4C, 0x4D, 0x4E, 0x4F].map (fun b => decodeBytes 0xCB b 0x12) =
      [.bit0B, .bit0C, .bit0D, .bit0E, .bit0H, .bit0L, .bit0MHl, .bit0A, .bit1B, .bit1C, .bit1D, .bit1E, .bit1H,
       .bit1L, .bit1MHl, .bit1A] := by decide

theorem test_decode_cb_5x :
    [0x50, 0x51, 0x52, 0x53, 0x54, 0x55, 0x56, 0x57, 0x58, 0x59, 0x5A, 0x5B, 0x5C, 0x5D, 0x5E, 0x5F].map (fun b => decodeBytes 0xCB b 0x12) =
      [.bit2B, .bit2C, .bit2D, .bit2E, .bit2H, .bit2L, .bit2MHl, .bit2A, .bit3B, .bit3C, .bit3D, .bit3E, .bit3H,
       .bit3L, .bit3MHl, .bit3A] := by decide

theorem test_decode_cb_6x :
    [0x60, 0x61, 0x62, 0x63, 0x64, 0x65, 0x66, 0x67, 0x68, 0x69, 0x6A, 0x6B, 0x6C, 0x6D, 0x6E, 0x6F].map (fun b => decodeBytes 0xCB b 0x12) =
      [.bit4B, .bit4C, .bit4D, .bit4E, .bit4H, .bit4L, .bit4MHl, .bit4A, .bit5B, .bit5C, .bit5D, .bit5E, .bit5H,
       .bit5L, .bit5MHl, .bit5A] := by decide

theorem test_decode_cb_7x :
    [0x70, 0x71, 0x72, 0x73, 0x74, 0x75, 0x76, 0x77, 0x78, 0x79, 0x7A, 0x7B, 0x7C, 0x7D, 0x7E, 0x7F].map (fun b => decodeBytes 0xCB b 0x12) =
      [.bit6B, .bit6C, .bit6D, .bit6E, .bit6H, .bit6L, .bit6MHl, .bit6A, .bit7B, .bit7C, .bit7D, .bit7E, .bit7H,
       .bit7L, .bit7MHl, .bit7A] := by decide

theorem test_decode_cb_8x :
    [0x80, 0x81, 0x82, 0x83, 0x84, 0x85, 0x86, 0x87, 0x88, 0x89, 0x8A, 0x8B, 0x8C, 0x8D, 0x8E, 0x8F].map (fun b => decodeBytes 0xCB b 0x12) =
      [.res0B, .res0C, .res0D, .res0E, .res0H, .res0L, .res0MHl, .res0A, .res1B, .res1C, .res1D, .res1E, .res1H,
       .res1L, .res1MHl, .res1A] := by decide

theorem test_decode_cb_9x :
    [0x90, 0x91, 0x92, 0x93, 0x94, 0x95, 0x96, 0x97, 0x98, 0x99, 0x9A, 0x9B, 0x9C, 0x9D, 0x9E, 0x9F].map (fun b => decodeBytes 0xCB b 0x12) =
      [.res2B, .res2C, .res2D, .res2E, .res2H, .res2L, .res2MHl, .res2A, .res3B, .res3C, .res3D, .res3E, .res3H,
       .res3L, .res3MHl, .res3A] := by decide

theorem test_decode_cb_Ax :
    [0xA0, 0xA1, 0xA2, 0xA3, 0xA4, 0xA5, 0xA6, 0xA7, 0xA8, 0xA9, 0xAA, 0xAB, 0xAC, 0xAD, 0xAE, 0xAF].map (fun b => decodeBytes 0xCB b 0x12) =
      [.res4B, .res4C, .res4D, .res4E, .res4H, .res4L, .res4MHl, .res4A, .res5B, .res5C, .res5D, .res5E, .res5H,
       .res5L, .res5MHl, .res5A] := by decide

theorem test_decode_cb_Bx :
    [0xB0, 0xB1, 0xB2, 0xB3, 0xB4, 0xB5, 0xB6, 0xB7, 0xB8, 0xB9, 0xBA, 0xBB, 0xBC, 0xBD, 0xBE, 0xBF].map (fun b => decodeBytes 0xCB b 0x12) =
      [.res6B, .res6C, .res6D, .res6E, .res6H, .res6L, .res6MHl, .res6A, .res7B, .res7C, .res7D, .res7E, .res7H,
       .res7L, .res7MHl, .res7A] := by decide

theorem test_decode_cb_Cx :
    [0xC0, 0xC1, 0xC2, 0xC3, 0xC4, 0xC5, 0xC6, 0xC7, 0xC8, 0xC9, 0xCA, 0xCB, 0xCC, 0xCD, 0xCE, 0xCF].map (fun b => decodeBytes 0xCB b 0x12) =
      [.set0B, .set0C, .set0D, .set0E, .set0H, .set0L, .set0MHl, .set0A, .set1B, .set1C, .set1D, .set1E, .set1H,
       .set1L, .set1MHl, .set1A] := by decide

theorem test_decode_cb_Dx :
    [0xD0, 0xD1, 0xD2, 0xD3, 0xD4, 0xD5, 0xD6, 0xD7, 0xD8, 0xD9, 0xDA, 0xDB, 0xDC, 0xDD, 0xDE, 0xDF].map (fun b => decodeBytes 0xCB b 0x12) =
      [.set2B, .set2C, .set2D, .set2E, .set2H, .set2L, .set2MHl, .set2A, .set3B, .set3C, .set3D, .set3E, .set3H,
       .set3L, .set3MHl, .set3A] := by decide

theorem test_decode_cb_Ex :
    [0xE0, 0xE1, 0xE2, 0xE3, 0xE4, 0xE5, 0xE6, 0xE7, 0xE8, 0xE9, 0xEA, 0xEB, 0xEC, 0xED, 0xEE, 0xEF].map (fun b => decodeBytes 0xCB b 0x12) =
      [.set4B, .set4C, .set4D, .set4E, .set4H, .set4L, .set4MHl, .set4A, .set5B, .set5C, .set5D, .set5E, .set5H,
       .set5L, .set5MHl, .set5A] := by decide

theorem test_decode_cb_Fx :
    [0xF0, 0xF1, 0xF2, 0xF3, 0xF4, 0xF5, 0xF6, 0xF7, 0xF8, 0xF9, 0xFA, 0xFB, 0xFC, 0xFD, 0xFE, 0xFF].map (fun b => decodeBytes 0xCB b 0x12) =
      [.set6B, .set6C, .set6D, .set6E, .set6H, .set6L, .set6MHl, .set6A, .set7B, .set7C, .set7D, .set7E, .set7H,
       .set7L, .set7MHl, .set7A] := by decide

/-! ## Single steps, from the vectors of 95_test_vectors.md -/

/-- A machine at `0x0200` in ROM with the bytes `code` there, its PPU off so that no lock is in the way. -/
def code (bytes : List Byte) : State :=
  { State.reset with pc := 0x0200, mem := Memory.ofBytes 0x0200 bytes, ppu := Ppu.reset.writeLcdc 0x11 }

/-- `s` with one more byte of memory. -/
def poke (s : State) (a : Nat) (v : Byte) : State := { s with mem := s.mem.write a v }

/-- The state a step gives. -/
def after (s : State) : Option State :=
  match step s with
  | .next t => some t
  | _ => none

/-- LD2: the address is taken before `H` is written. -/
theorem test_ld_h_mem : (after { poke (code [0x66]) 0xC123 0x9F with h := 0xC1, l := 0x23 }).map
    (fun t => (t.h, t.l, t.cycles)) = some (0x9F, 0x23, 8) := by decide

/-- LD5: `HL` wraps, and `IE` is read. -/
theorem test_ld_a_hli : (after { code [0x2A] with h := 0xFF, l := 0xFF, ie := 0x15 }).map
    (fun t => (t.a, t.hl)) = some (0x15, 0x0000) := by decide

/-- LD7: ROM keeps its byte, `HL` still moves. -/
theorem test_ld_hld_rom : (after { code [0x32] with h := 0, l := 0, a := 0x11 }).map
    (fun t => (t.mem.read 0, t.hl)) = some (0x00, 0xFFFF) := by decide

/-- LD9: the upper bits of `IF` read 1. -/
theorem test_ldh_if : (after { code [0xF0, 0x0F] with ifr := 0x05 }).map (fun t => (t.a, t.cycles)) = some (0xE5, 12) := by
  decide

/-- LD10: a store to `BGP`. -/
theorem test_ldh_bgp : (after { code [0xE2] with a := 0x3C, c := 0x47 }).map (fun t => t.ppu.bgp) = some 0x3C := by decide

/-- LD11: the echo of work RAM. -/
theorem test_ld_echo : (after (poke (code [0xFA, 0x10, 0xE0]) 0xC010 0x99)).map (fun t => (t.a, t.pc)) =
    some (0x99, 0x0203) := by decide

/-- LD16: little-endian. -/
theorem test_ld_nn_sp : (after { code [0x08, 0x00, 0xC1] with sp := 0xFFF8 }).map
    (fun t => (t.mem.read 0xC100, t.mem.read 0xC101, t.cycles)) = some (0xF8, 0xFF, 20) := by decide

/-- LD19: the low nibble of `F` is forced to 0. -/
theorem test_pop_af : (after { poke (poke (code [0xF1]) 0xC200 0xFF) 0xC201 0x12 with sp := 0xC200 }).map
    (fun t => (t.a, t.f, t.sp)) = some (0x12, 0xF0, 0xC202) := by decide

/-- LD21: a push split between ROM and `IE`. -/
theorem test_push_split : (after { code [0xE5] with h := 0xAB, l := 0xCD, sp := 0x0001 }).map
    (fun t => (t.ie, t.sp, t.mem.read 0)) = some (0xCD, 0xFFFF, 0x00) := by decide

/-- LD23: carries out of the low byte. -/
theorem test_ld_hl_sp_e : (after { code [0xF8, 0x01] with sp := 0x00FF }).map (fun t => (t.hl, t.f)) =
    some (0x0100, 0x30) := by decide

/-- AL6: the carry comes from the carry-in alone. -/
theorem test_adc_n : (after { code [0xCE, 0x00] with a := 0xFF, f := 0x10 }).map (fun t => (t.a, t.f)) = some (0x00, 0xB0) := by
  decide

/-- AL13: `00 - FF - 1`. -/
theorem test_sbc_n : (after { code [0xDE, 0xFF] with a := 0x00, f := 0x10 }).map (fun t => (t.a, t.f)) = some (0x00, 0xF0) := by
  decide

/-- AL24: the carry is kept. -/
theorem test_inc_a : (after { code [0x3C] with a := 0xFF, f := 0x10 }).map (fun t => (t.a, t.f)) = some (0x00, 0xB0) := by decide

/-- AL32 and AL35: `DAA` after a subtraction. -/
theorem test_daa : (after { code [0x27] with a := 0x4B, f := 0x60 }).map (fun t => (t.a, t.f)) = some (0x45, 0x40) ∧
    (after { code [0x27] with a := 0x00, f := 0x70 }).map (fun t => (t.a, t.f)) = some (0x9A, 0x50) := by decide

/-- CT8: a backward jump. -/
theorem test_jr_back : (after (code [0x18, 0x80])).map (fun t => (t.pc, t.cycles)) = some (0x0182, 12) := by decide

/-- CT14: the address after the `CALL` is pushed. -/
theorem test_call : (after { code [0xCD, 0x34, 0x12] with sp := 0xD000 }).map
    (fun t => (t.mem.read 0xCFFF, t.mem.read 0xCFFE, t.sp, t.pc)) = some (0x02, 0x03, 0xCFFE, 0x1234) := by decide

/-- CT22: a restart that pushes into `IE` and high RAM. -/
theorem test_rst_wrap : (after { code [0xFF] with sp := 0x0000 }).map
    (fun t => (t.ie, t.mem.read 0xFFFE, t.sp, t.pc)) = some (0x02, 0x01, 0xFFFE, 0x0038) := by decide

/-- R224's example, and R230: `RLC B` and `SWAP A`. -/
theorem test_rlc_swap : (after { code [0xCB, 0x00] with b := 0x85, f := 0 }).map (fun t => (t.b, t.f)) = some (0x0B, 0x10) ∧
    (after { code [0xCB, 0x37] with a := 0x1F, f := 0xF0 }).map (fun t => (t.a, t.f)) = some (0xF1, 0x00) := by decide

/-- R115: the fault leaves `PC` at the byte. -/
theorem test_illegal_fault :
    (match step (code [0xDD]) with
      | .fault (.illegalOpcode op addr u) => decide (op = 0xDD ∧ addr = 0x0200 ∧ u.pc = 0x0200 ∧
          u.runState = .faulted 0xDD 0x0200)
      | _ => false) = true := by decide

/-! ## The host's two questions, on one word of each kind -/

theorem test_table_words : decodeTableWord 8 0x78 = some .ldAB ∧ decodeTableWord 16 0xCB37 = some .swapA ∧
    decodeTableWord 16 0x37CB = some .swapA ∧ decodeTableWord 24 0x1234C3 = some (.jpNn 0x1234) := by decide

theorem test_withFetchWord : (after (State.reset.withFetchWord 8 0x41)).map (fun t => (t.b, t.pc)) = some (0x13, 0x0101) := by
  decide

/-! ## Hypotheses that are met -/

/-- `LengthFromFirstByte`: a defined opcode at each end of each length. -/
theorem test_defined_opcodes : [0x00, 0xFF, 0xCB, 0xF8, 0x01, 0xFA].all (fun b => !unassignedBytes.contains b) = true := by
  decide

/-- The read-back clause of the stores of one byte: a canonical memory and an address that takes the byte, in each region
that can. -/
theorem test_storable : State.reset.mem.wf ∧
    [0xC000, 0xDFFF, 0xE000, 0xFDFF, 0xFF00, 0xFF40, 0xFF46, 0xFF7F, 0xFF80, 0xFFFE, 0xFFFF].all State.reset.storable = true ∧
    (code []).storable 0x8000 = true ∧ (code []).storable 0xFE9F = true ∧
    State.storable { code [] with cartRamPresent := true } 0xA000 = true := by decide

/-- The read-back clause of the stores of two bytes, and `PopReturnsWhatPushStored`: the two slots at the top of high RAM, and
across the start of the echo. -/
theorem test_plain_slots :
    (let s := State.reset
     s.mem.wf ∧ s.plain (s.sp - 1) = true ∧ s.plain (s.sp - 2) = true ∧ cellOf (s.sp - 1) ≠ cellOf (s.sp - 2)) ∧
    (let s := { State.reset with sp := 0xE001 }
     s.mem.wf ∧ s.plain (s.sp - 1) = true ∧ s.plain (s.sp - 2) = true ∧ cellOf (s.sp - 1) ≠ cellOf (s.sp - 2)) := by decide

/-- `AddAndAddWithCarry` and `SubAndSubWithCarry`: each pair of operation and carry-in. -/
theorem test_alu_hypotheses :
    (let s := State.reset
     ((AluOp.add = .add ∧ false = false) ∨ (AluOp.add = .adc ∧ false = s.fC)) ∧
     ((AluOp.adc = .add ∧ true = false) ∨ (AluOp.adc = .adc ∧ true = s.fC)) ∧
     ((AluOp.sub = .sub ∧ false = false) ∨ (AluOp.sub = .sbc ∧ false = s.fC)) ∧
     ((AluOp.sbc = .sub ∧ true = false) ∨ (AluOp.sbc = .sbc ∧ true = s.fC))) := by decide

/-- `Jumps`, `CallsAndRestarts`, `Returns`: each condition taken and not taken. -/
theorem test_conditions :
    (let z := { State.reset with f := 0x90 }
     let n := { State.reset with f := 0x00 }
     (!n.f.getLsbD 7) = true ∧ (!z.f.getLsbD 7) = false ∧ z.f.getLsbD 7 = true ∧ n.f.getLsbD 7 = false ∧
     (!n.f.getLsbD 4) = true ∧ (!z.f.getLsbD 4) = false ∧ z.f.getLsbD 4 = true ∧ n.f.getLsbD 4 = false) := by decide

/-- `HaltAndStop`: the quirk's condition met, and failed in both ways. -/
theorem test_halt_conditions :
    (let q := { State.reset with ie := 0x10, ifr := 0x10 }
     let r := { State.reset with ie := 0x10, ifr := 0x10, ime := true }
     let w := State.reset
     (q.ime = false ∧ q.ie &&& q.ifr.setWidth 8 &&& 0x1F ≠ 0) ∧ ¬ (r.ime = false ∧ r.ie &&& r.ifr.setWidth 8 &&& 0x1F ≠ 0) ∧
     ¬ (w.ime = false ∧ w.ie &&& w.ifr.setWidth 8 &&& 0x1F ≠ 0)) := by decide

/-- `StepRunsDecoded`: a decoded instruction at `PC`, with and without the wait quirk. -/
theorem test_step_runs :
    (let s := code [0x3E, 0x42]
     (boundary s).runState = .running ∧ interruptTaken (boundary s) = false ∧
     (match decode (fetchBytes (boundary s)) with | .ok (i, _) => decide (i = .ldAN 0x42 ∧ i.wf = true) | _ => false) = true) ∧
    (let s := { code [0x3E, 0x42] with haltBug := true }
     (boundary s).runState = .running ∧ interruptTaken (boundary s) = false ∧
     (match decode (fetchBytes (boundary s)) with | .ok (i, _) => decide (i = .ldAN 0x3E ∧ i.wf = true) | _ => false) = true) := by
  decide

/-- `WaitingStep`: each of its two waits. -/
theorem test_waits :
    (let h := { State.reset with runState := .halted, ie := 0x1E, ifr := 0x01 }
     h.dma.Inv ∧ h.runState = .halted ∧ h.ie &&& h.ifr.setWidth 8 &&& 0x1F = 0) ∧
    (let p := { State.reset with runState := .stopped, ie := 0x0F, ifr := 0x0F }
     p.dma.Inv ∧ p.runState = .stopped ∧ p.ifr.getLsbD 4 = false) := by decide

/-- `TicksAfterCpuStep`: an idle sequencer, and an active one that waits, copies, and copies its last byte. -/
theorem test_tick_hypotheses : State.reset.dma.active = false ∧
    (let d : Dma := { Dma.reset with active := true, sub := 2 }
     d.active = true ∧ d.sub ≠ 3) ∧
    (let d : Dma := { Dma.reset with active := true, sub := 3, offset := 158 }
     d.active = true ∧ ¬ d.sub ≠ 3 ∧ d.offset ≠ 159) ∧
    (let d : Dma := { Dma.reset with active := true, sub := 3, offset := 159 }
     d.active = true ∧ ¬ d.sub ≠ 3 ∧ d.offset = 159) := by decide

/-- R8, R405, R406: one external mask enters `IF` at the end of a step and leaves the list; bits 7:5 are lost. -/
theorem test_external_mask :
    (let t := systemTail { State.reset with extRequests := [0xE4, 0x08], ifr := 0x01 }
     t.ifr = 0x05 ∧ t.extRequests = [0x08]) := by decide

/-- `DispatchTakesLowestPending` and the first half of `InterruptTestAndRequest`: the lowest source and the highest one. -/
theorem test_dispatch_hypotheses :
    (let t := boundary { State.reset with ime := true, ie := 0xFF, ifr := 0x1F }
     t.runState = .running ∧ interruptTaken t = true ∧ t.ime = true ∧ (t.ie.getLsbD 0 && t.ifr.getLsbD 0) = true) ∧
    (let t := boundary { State.reset with imeDelay := 1, ie := 0x10, ifr := 0x1F }
     t.runState = .running ∧ interruptTaken t = true ∧ t.ime = true ∧ 4 < 5 ∧ (t.ie.getLsbD 4 && t.ifr.getLsbD 4) = true ∧
     ∀ m, m < 4 → (t.ie.getLsbD m && t.ifr.getLsbD m) = false) ∧
    (boundary State.reset).runState = .running ∧ interruptTaken (boundary State.reset) = false := by decide

/-- `IllegalOpcodeIsTerminal`: an unassigned byte at `PC`, and a machine that has stopped. -/
theorem test_illegal_hypotheses :
    (let s := code [0xFD]
     (boundary s).runState = .running ∧ interruptTaken (boundary s) = false ∧ cpuRead (boundary s) s.pc = 0xFD ∧
     0xFD ∈ unassignedBytes) ∧
    (let s := { State.reset with runState := .faulted 0xD3 0x0100 }
     s.runState = .faulted 0xD3 0x0100) := by decide

/-- `BusByAddress`: no transfer, and the addresses where its ranges meet. -/
theorem test_bus_ranges : State.reset.dma.active = false ∧
    [0x0000, 0x7FFF].all (fun a : Word => decide (a.toNat < 0x8000)) = true ∧
    [0x8000, 0x9FFF].all (fun a : Word => decide (¬ a.toNat < 0x8000 ∧ a.toNat < 0xA000)) = true ∧
    [0xA000, 0xBFFF].all (fun a : Word => decide (¬ a.toNat < 0xA000 ∧ a.toNat < 0xC000)) = true ∧
    [0xC000, 0xDFFF].all (fun a : Word => decide (¬ a.toNat < 0xC000 ∧ a.toNat < 0xE000)) = true ∧
    [0xE000, 0xFDFF].all (fun a : Word => decide (¬ a.toNat < 0xE000 ∧ a.toNat < 0xFE00)) = true ∧
    [0xFE00, 0xFE9F].all (fun a : Word => decide (¬ a.toNat < 0xFE00 ∧ a.toNat < 0xFEA0)) = true ∧
    [0xFEA0, 0xFEFF].all (fun a : Word => decide (¬ a.toNat < 0xFEA0 ∧ a.toNat < 0xFF00)) = true ∧
    [0xFF00, 0xFF7F].all (fun a : Word => decide (¬ a.toNat < 0xFF00 ∧ a.toNat < 0xFF80)) = true ∧
    [0xFF80, 0xFFFE].all (fun a : Word => decide (¬ a.toNat < 0xFF80 ∧ a.toNat < 0xFFFF)) = true ∧
    ¬ (0xFFFF : Word).toNat < 0xFFFF := by decide

/-- `TransferBlocksTheCpu`: a transfer, the last blocked address and the first free one, the trigger and another. -/
theorem test_transfer_hypotheses : (cpuWrite State.reset 0xFF46 0xC0).dma.active = true ∧ (0xFEFF : Word).toNat < 0xFF00 ∧
    ¬ (0xFF00 : Word).toNat < 0xFF00 ∧ (0xFF45 : Word) ≠ 0xFF46 ∧ (0xFF46 : Word) = 0xFF46 := by decide

/-- `RegisterReads` and `RegisterWrites`: the unassigned cells beside the registers, and at the ends of the page. -/
theorem test_register_ranges :
    [0xFF00, 0xFF0E, 0xFF10, 0xFF3F, 0xFF4C, 0xFF7F].all (fun a : Word =>
      decide (0xFF00 ≤ a.toNat ∧ a.toNat < 0xFF80 ∧ a ≠ 0xFF0F ∧ ¬ (0xFF40 ≤ a.toNat ∧ a.toNat ≤ 0xFF4B))) = true := by decide

/-- `ModeIsFunctionOfDots`, `PpuRequests`: the PPU after reset, and one dot before line 144; `TickSplitsAndStops`: the LCD off. -/
theorem test_ppu_hypotheses : Ppu.reset.Inv ∧ Ppu.reset.lcdOn = true ∧
    (let p := { Ppu.reset with ly := 143, dot := 455, mode := .hblank }
     p.Inv ∧ p.lcdOn = true) ∧
    (Ppu.reset.writeLcdc 0x11).lcdOn = false := by decide

/-- `RenderedOncePerVisibleLine`: the first and the last rendered line, the frame's wrap, and a dot that does neither. -/
theorem test_render_first_line :
    let p : Ppu := { Ppu.reset with dot := 79 }
    p.Inv ∧ p.lcdOn = true ∧ p.ly < 144 ∧ p.dot = 79 := by decide

theorem test_render_last_line :
    let p : Ppu := { Ppu.reset with ly := 143, dot := 79 }
    p.Inv ∧ p.lcdOn = true ∧ p.ly < 144 ∧ p.dot = 79 := by decide

theorem test_render_frame_wrap :
    let p : Ppu := { Ppu.reset with ly := 153, dot := 455, mode := .vblank }
    p.Inv ∧ p.lcdOn = true ∧ ¬ (p.ly < 144 ∧ p.dot = 79) ∧ p.ly = 153 ∧ p.dot = 455 := by decide

theorem test_render_other_dot :
    let p : Ppu := { Ppu.reset with ly := 144, dot := 79, mode := .vblank }
    p.Inv ∧ p.lcdOn = true ∧ ¬ (p.ly < 144 ∧ p.dot = 79) ∧ ¬ (p.ly = 153 ∧ p.dot = 455) := by decide

/-- `RowOfALine`: the first and the last column, with and without the background, in and out of the window. -/
theorem test_row_hypotheses : 0 < 160 ∧ 159 < 160 ∧
    (let p := { Ppu.reset with lcdc := 0xB1, wx := 7 }
     p.lcdc.getLsbD 0 = true ∧ (p.lcdc.getLsbD 5 = true ∧ p.wy.toNat ≤ 0 ∧ p.wx.toNat ≤ 0 + 7)) ∧
    Ppu.reset.lcdc.getLsbD 5 = false ∧ (Ppu.reset.writeLcdc 0x80).lcdc.getLsbD 0 = false := by decide

/-- `FirstOpaqueSpriteDecides` and `SpritePixelOfATile`: a sprite that shows at column 0 of line 0 and none at column 8, over
a tile whose first row is all index 1. -/
theorem test_sprite_hypotheses :
    (let mem := Memory.ofBytes 0x8000 [0xFF]
     let o : Sprite := { y := 16, x := 8, tile := 0, attr := 0 }
     let q : Sprite := { y := 16, x := 200, tile := 0, attr := 0 }
     (∀ q' ∈ [q], spritePixel Ppu.reset mem q' 0 0 = none) ∧ spritePixel Ppu.reset mem o 0 0 = some 1 ∧
     spritePixel Ppu.reset mem o 0 8 = none ∧ spritePixel Ppu.reset mem o 1 0 = none ∧
     o.y.toNat ≤ 0 + 16 ∧ 0 + 16 < o.y.toNat + 8 ∧ o.y.toNat ≤ 7 + 16 ∧ 7 + 16 < o.y.toNat + 8) := by decide

/-- `PackedFramebuffer`: the last byte, pixel, row and column. -/
theorem test_packed_hypotheses : 5759 < 5760 ∧ 3 < 4 ∧ 143 < 144 ∧ 159 < 160 := by decide

/-- `TransferCopiesOnePage`: a canonical memory, before and after the end of a transfer, and its first and last bytes. -/
theorem test_transfer_copies : State.reset.mem.wf ∧ 639 < 640 ∧ ¬ 640 < 640 ∧ 159 < 160 ∧ ¬ (0xFE00 ≤ 0xFEA0 ∧ 0xFEA0 < 0xFEA0) ∧
    (let t := dmaTick 8 (cpuWrite (poke State.reset 0xC001 0x77) 0xFF46 0xC0)
     t.mem.read 0xFE01 = 0x77 ∧ t.dma.offset = 2) := by decide

/-- `TransferSource`: each of its three clauses at the pages where they meet. -/
theorem test_source_pages : 0 < 160 ∧ 159 < 160 ∧
    [0xA0, 0xBF].all (fun v : Byte => decide (0xA0 ≤ v.toNat ∧ v.toNat < 0xC0 ∧ State.reset.cartRamPresent = false)) = true ∧
    [0xE0, 0xFF].all (fun v : Byte => decide (¬ (0xA0 ≤ v.toNat ∧ v.toNat < 0xC0) ∧ 0xE0 ≤ v.toNat)) = true ∧
    [0x00, 0x9F, 0xC0, 0xDF].all (fun v : Byte => decide (¬ (0xA0 ≤ v.toNat ∧ v.toNat < 0xC0) ∧ ¬ 0xE0 ≤ v.toNat)) = true := by
  decide

/-- `Construction`: an image one byte short, and one that is just long enough. -/
theorem test_image_lengths : (List.replicate 0x7FFF (0 : Byte)).length < 0x8000 ∧
    ¬ (List.replicate 0x8000 (0 : Byte)).length < 0x8000 ∧ 0x8000 ≤ 0xC000 ∧ isCell 0xC000 = true := by
  rw [List.length_replicate, List.length_replicate]; decide

/-- `StepKeepsInvariant` and `StepNeverChangesRom`: a state that meets the invariant and whose step gives a state. -/
theorem test_invariant_hypotheses : (code [0x3C]).Inv ∧ (after (code [0x3C])).isSome = true := by decide

/-- `InterruptsComeOnOnlyBy`: by the delayed enable, and by `RETI`. -/
theorem test_ime_comes_on :
    (let s := { code [] with imeDelay := 1 }
     s.ime = false ∧ (after s).map (fun t => t.ime) = some true) ∧
    (let s := code [0xD9]
     s.ime = false ∧ (after s).map (fun t => t.ime) = some true) := by decide

end Sys2Proof.Tests
end

section
/-! The system step around the CPU step (00_scope.md R8; 60_exceptions.md R410): what a step that waits does, that a step
that fetches runs the instruction its bytes decode to, and the ticks after it. -/

namespace Sys2Proof.Machine

/-! ## The boundary actions -/

/-- The countdown as one update: at a delay of 0 it changes nothing (R275, R410). -/
theorem countdown_eq (s : State) :
    countdown s = { s with imeDelay := s.imeDelay - 1, ime := s.ime || decide (s.imeDelay = 1) } := by
  unfold countdown
  split
  · next h0 =>
    have hdelay : s.imeDelay - 1 = s.imeDelay := by rw [h0]
    have hime : (s.ime || decide (s.imeDelay = 1)) = s.ime := by simp [h0]
    rw [hdelay, hime]
  · by_cases h1 : s.imeDelay = 1 <;> simp [h1]

/-- A machine halted with nothing pending only counts down: `Halted` lasts (R272, R410). -/
theorem boundary_of_halted {s : State} (h : s.runState = .halted) (hp : s.pending = 0) :
    boundary s = countdown s := by
  have hr : (countdown s).runState = .halted := by rw [countdown_eq]; exact h
  have hp' : (countdown s).pending = 0 := by rw [countdown_eq]; exact hp
  simp [boundary, wake, hr, hp']

/-- A machine stopped without a joypad request only counts down: `Stopped` lasts (R276, R410). -/
theorem boundary_of_stopped {s : State} (h : s.runState = .stopped) (hj : s.ifr.getLsbD 4 = false) :
    boundary s = countdown s := by
  have hr : (countdown s).runState = .stopped := by rw [countdown_eq]; exact h
  have hj' : (countdown s).ifr.getLsbD 4 = false := by rw [countdown_eq]; exact hj
  simp only [boundary, wake, hr, hj', Bool.false_eq_true, if_false]

/-- No boundary action touches the wait quirk. -/
theorem boundary_haltBug (s : State) : (boundary s).haltBug = s.haltBug := by
  rw [boundary, wake_keeps, countdown_keeps]

/-- Nothing is pending when the spec's byte `IE & IF & 0x1F` is 0 (R404). -/
theorem pending_eq_zero {s : State} (h : s.ie &&& s.ifr.setWidth 8 &&& 0x1F = 0) : s.pending = 0 := by
  rw [pending_byte] at h
  have h5 := congrArg (BitVec.setWidth 5) h
  rwa [BitVec.setWidth_setWidth_of_le _ (by decide), BitVec.setWidth_eq] at h5

/-! ## The branch a step takes -/

/-- A faulted machine stays faulted at the boundary (R410). -/
theorem boundary_of_faulted {s : State} {op : Byte} {addr : Word} (h : s.runState = .faulted op addr) :
    (boundary s).runState = .faulted op addr := by
  rw [boundary, countdown_eq]
  simp [wake, h]

/-- A machine still stopped after the boundary actions is idle, whatever is pending (R410). -/
theorem beginStep_of_stopped {s : State} (h : (boundary s).runState = .stopped) :
    beginStep s = .over { boundary s with cycles := 4 } := by
  unfold beginStep
  split
  · next hf => simp [boundary_of_faulted hf] at h
  · rw [if_pos h]; rfl

/-- A machine still halted after the boundary actions is idle when no interrupt is due (R410). -/
theorem beginStep_of_halted {s : State} (h : (boundary s).runState = .halted)
    (hi : interruptTaken (boundary s) = false) : beginStep s = .over { boundary s with cycles := 4 } := by
  unfold beginStep
  split
  · next hf => simp [boundary_of_faulted hf] at h
  · simp [h, hi, Config.idleCycles]

/-- A machine running after the boundary actions fetches when no interrupt is due (R410). -/
theorem beginStep_of_running {s : State} (h : (boundary s).runState = .running)
    (hi : interruptTaken (boundary s) = false) : beginStep s = .run (boundary s) := by
  unfold beginStep
  split
  · next hf => simp [boundary_of_faulted hf] at h
  · simp [h, hi]

/-! ## Waiting -/

/-- The step of a machine halted with nothing pending (R410, R421). -/
theorem step_of_halted {s : State} (h : s.runState = .halted) (hp : s.pending = 0) :
    step s = .next (systemTail { countdown s with cycles := 4 }) := by
  have hb := boundary_of_halted h hp
  have hr : (boundary s).runState = .halted := by rw [hb, countdown_eq]; exact h
  have hi : interruptTaken (boundary s) = false := by
    have hp' : (boundary s).pending = 0 := by rw [hb, countdown_eq]; exact hp
    simp [interruptTaken, hp']
  simp only [step, beginStep_of_halted hr hi, hb]

/-- The step of a machine stopped without a joypad request (R410, R421). -/
theorem step_of_stopped {s : State} (h : s.runState = .stopped) (hj : s.ifr.getLsbD 4 = false) :
    step s = .next (systemTail { countdown s with cycles := 4 }) := by
  have hb := boundary_of_stopped h hj
  have hr : (boundary s).runState = .stopped := by rw [hb, countdown_eq]; exact h
  simp only [step, beginStep_of_stopped hr, hb]

/-- The tail changes no cell outside OAM while the sequencer is in range (R8, R385). -/
theorem systemTail_outside {s : State} (h : s.dma.Inv) {k : Nat} (hk : ¬ (0xFE00 ≤ k ∧ k < 0xFEA0)) :
    (systemTail s).mem.read k = s.mem.read k := by
  rw [systemTail_mem, dmaTick_outside _ h hk]

/-- Settles O34: both waits end in the tail of an idle CPU step of 4 cycles, after the countdown alone. -/
theorem waitingStep : Obligations.WaitingStep := by
  unfold Obligations.WaitingStep
  intro s hdma hwait
  have hstep : step s = .next (systemTail { countdown s with cycles := 4 }) := by
    obtain ⟨hr, hp⟩ | ⟨hr, hj⟩ := hwait
    · exact step_of_halted hr (pending_eq_zero hp)
    · exact step_of_stopped hr hj
  rw [countdown_eq] at hstep
  exact ⟨_, hstep, rfl, systemTail_keeps _, fun k hk => systemTail_outside (by exact hdma) hk⟩

/-! ## Running the instruction at `PC` -/

/-- Every instruction has a first byte (R100). -/
theorem instr_length_pos (i : Instr) : 0 < i.length := by
  cases i <;> exact Nat.succ_pos _

/-- What the decoder answers on three bytes is the instruction that begins with the first. -/
theorem decodeBytes_of_decode {b0 n1 n2 : Byte} {i : Instr} {rest : List Byte}
    (h : decode [b0, n1, n2] = .ok (i, rest)) : decodeBytes b0 n1 n2 = i := by
  simp only [decode] at h
  split at h
  · cases h
  · cases h; rfl

/-- The decoder, on the bytes the fetch reads, gives the instruction fetched (R103). -/
theorem fetchInstr_of_decode {s : State} {i : Instr} {rest : List Byte} (h : decode (fetchBytes s) = .ok (i, rest)) :
    fetchInstr s = i := by
  unfold fetchBytes at h
  unfold fetchInstr operandAddress
  cases hq : s.haltBug <;> simp only [hq] at h
  case true => exact decodeBytes_of_decode h
  case false => simpa [BitVec.add_assoc] using decodeBytes_of_decode h

/-- Where `PC` stands when the instruction runs: past its bytes, one less after the wait quirk (R103, R273). -/
theorem operandAddress_add (s : State) (i : Instr) :
    operandAddress s + BitVec.ofNat 16 (i.length - 1) =
      s.pc + BitVec.ofNat 16 (if s.haltBug then i.length - 1 else i.length) := by
  unfold operandAddress
  split
  · rfl
  · obtain ⟨n, hn⟩ := Nat.exists_eq_add_of_lt (instr_length_pos i)
    rw [hn, BitVec.add_assoc]
    simp [BitVec.ofNat_add, BitVec.add_comm]

/-- Settles O32: with no interrupt due a running step fetches, and what it fetches is the decoded instruction. -/
theorem stepRunsDecoded : Obligations.StepRunsDecoded := by
  unfold Obligations.StepRunsDecoded
  intro s i rest hrun hint hdec hwf
  have hb : beginStep s = .run (boundary s) := beginStep_of_running hrun hint
  have hi : fetchInstr (boundary s) = i := fetchInstr_of_decode hdec
  have hf : fetched (boundary s) = { boundary s with
      pc := (boundary s).pc + BitVec.ofNat 16 (if s.haltBug then i.length - 1 else i.length)
      haltBug := false } := by
    have hu : i.unassigned = false := by simpa [Instr.wf] using hwf
    rw [fetched, hi, hu, operandAddress_add, boundary_haltBug]
    rfl
  split <;> next he => simp only [step, hb, hi, hf, he]

/-! ## The ticks after the CPU step -/

/-- The environment's mask at a boundary, 0 where none is left, leaves the list and enters `IF` (R405, log entry 3). -/
theorem deliverExternal_eq (s : State) :
    deliverExternal s = { s with
      ifr := s.ifr ||| (s.extRequests.headD 0).setWidth 5
      extRequests := s.extRequests.tail } := by
  unfold deliverExternal
  split
  · next he =>
    have hifr : s.ifr ||| (s.extRequests.headD 0).setWidth 5 = s.ifr := by simp [he]
    have hext : s.extRequests.tail = s.extRequests := by rw [he]; rfl
    rw [hifr, hext]
  · next mask rest he => rw [he]; rfl

/-- The whole tail as one update of the state (R8). -/
theorem systemTail_eq (s : State) :
    systemTail s = { s with
      mem := (dmaTick s.cycles s).mem
      dma := (dmaTick s.cycles s).dma
      ppu := (ppuTick s.cycles s.ppu (dmaTick s.cycles s).mem).1
      ifr := s.ifr ||| (ppuTick s.cycles s.ppu (dmaTick s.cycles s).mem).2.setWidth 5 |||
        (s.extRequests.headD 0).setWidth 5
      extRequests := s.extRequests.tail } := by
  rw [systemTail, deliverExternal_eq, dmaTick_keeps]
  rfl

/-- A tick of one cycle is that cycle, while a transfer is active (R384). -/
theorem dmaTick_one {s : State} (h : s.dma.active = true) : dmaTick 1 s = dmaCycle s := by
  simp [dmaTick, h]

/-- Settles O60: the tail's equation, the sequencer's split law, and the three kinds of cycle of an active transfer. -/
theorem ticksAfterCpuStep : Obligations.TicksAfterCpuStep := by
  unfold Obligations.TicksAfterCpuStep
  intro s
  refine ⟨systemTail_eq s, rfl, fun m n => dmaTick_add m n s, fun h => dmaTick_idle h 1, fun h => ?_⟩
  rw [dmaTick_one h]
  by_cases h3 : s.dma.sub = 3
  · rw [if_neg (not_not.mpr h3), Nat.mul_comm]
    by_cases h159 : s.dma.offset = 159
    · rw [if_pos h159, dmaCycle_last h3 h159]
    · rw [if_neg h159, dmaCycle_copy h3 h159, ← h]
  · rw [if_pos h3, dmaCycle_wait h3]

end Sys2Proof.Machine
end

section
/-! The invariants of every step (10_state.md R44): a step keeps `State.Inv` and ROM, and raises `IME` only by the delayed
enable or by `RETI`; and the pairs as views of their two registers (R22, R23, R160, R162). -/

namespace Sys2Proof.Machine

/-! ## The invariant through a step -/

/-- A fetch keeps the invariant, since it moves `PC` and consumes the wait quirk only (R103). -/
theorem fetched_inv {s : State} (h : s.Inv) : (fetched s).Inv := by
  rw [fetched_keeps]
  exact h.of_same h.1 rfl rfl rfl rfl rfl

/-- Settles O56: each of the three things a CPU step can do keeps the invariant, and so do the ticks after it. -/
theorem stepKeepsInvariant : Obligations.StepKeepsInvariant := by
  unfold Obligations.StepKeepsInvariant
  intro s t hs hstep
  have hb : (boundary s).Inv := boundary_inv hs
  obtain ⟨u, rfl, hu⟩ := step_next_cases hstep
  refine systemTail_inv ?_
  obtain ⟨rfl, -⟩ | ⟨rfl, -⟩ | ⟨hexec, -⟩ := hu
  · exact hb.of_same hb.1 rfl rfl rfl rfl rfl
  · exact dispatch_inv hb
  · exact exec_keepsInv _ _ u hexec (fetched_inv hb)

/-- Settles O57: no enable is pending, the PPU is at the start of a frame, the sequencer idle, and no byte is listed. -/
theorem resetMeetsInvariant : Obligations.ResetMeetsInvariant := by
  unfold Obligations.ResetMeetsInvariant
  have hppu : Ppu.reset.Inv := by decide
  have hdma : Dma.reset.Inv := by decide
  have hmem : Memory.wf [] := ⟨List.Pairwise.nil, nofun⟩
  exact ⟨rfl, Nat.zero_le _, fun _ => rfl, hppu, hdma, hmem, nofun⟩

/-! ## What no step changes, and what raises `IME` -/

/-- The boundary actions change none of what no instruction changes (R410). -/
theorem keepsFixed_boundary (s : State) : KeepsFixed s (boundary s) := by
  rw [boundary, wake_keeps, countdown_keeps]
  exact ⟨fun _ _ => rfl, rfl, rfl, rfl⟩

/-- The boundary actions raise `IME` only from the delayed enable's last count (R275, R410). -/
theorem boundary_ime (s : State) : (boundary s).ime = (s.ime || decide (s.imeDelay = 1)) := by
  rw [boundary, wake_keeps, countdown_eq]

/-- A fetch changes none of what no instruction changes (R103). -/
theorem keepsFixed_fetched (s : State) : KeepsFixed s (fetched s) := by
  rw [fetched_keeps]
  exact ⟨fun _ _ => rfl, rfl, rfl, rfl⟩

theorem fetched_ime (s : State) : (fetched s).ime = s.ime := by rw [fetched_keeps]

/-- Taking an interrupt changes none of what no instruction changes: it is a push between register updates (R412). -/
theorem keepsFixed_dispatch (s : State) : KeepsFixed s (dispatch s) :=
  keepsFixed_push { s with
    ifr := s.ifr &&& ~~~(1#5 <<< lowestSource s.pending), ime := false, imeDelay := 0, haltBug := false } s.pc

/-- Taking an interrupt turns `IME` off (R412). -/
theorem dispatch_ime (s : State) : (dispatch s).ime = false := by
  unfold dispatch
  dsimp only
  rw [push16_keepsCpu]

/-- Everything before the ticks of a step keeps what no instruction changes, and leaves `IME` on only where it was on
after the boundary actions or where `RETI` ran (R8, R410). -/
theorem step_next_keepsRest {s t : State} (h : step s = .next t) :
    ∃ u, t = systemTail u ∧ KeepsFixed s u ∧
      (u.ime = true → (boundary s).ime = true ∨ fetchInstr (boundary s) = .reti) := by
  obtain ⟨u, rfl, hu⟩ := step_next_cases h
  have hb := keepsFixed_boundary s
  refine ⟨u, rfl, ?_⟩
  obtain ⟨rfl, -⟩ | ⟨rfl, -⟩ | ⟨hexec, -⟩ := hu
  · exact ⟨hb, .inl⟩
  · exact ⟨hb.trans (keepsFixed_dispatch _), fun hime => by simp [dispatch_ime] at hime⟩
  · obtain ⟨hfixed, hreti⟩ := exec_keepsRest _ _ u hexec
    rw [fetched_ime] at hreti
    exact ⟨(hb.trans (keepsFixed_fetched _)).trans hfixed, fun hime => hreti.symm.imp_left fun h => h hime⟩

/-- The ticks after a CPU step change no byte of ROM: the sequencer copies to object-attribute memory only (R385). -/
theorem systemTail_rom (s : State) {k : Nat} (hk : k < 0x8000) : (systemTail s).mem.read k = s.mem.read k := by
  rw [systemTail_mem, dmaTick_read_below _ _ (by omega)]

/-- Settles O58: neither the CPU step nor the ticks after it reach a cell below `0x8000` or write `CART_RAM_PRESENT`. -/
theorem stepNeverChangesRom : Obligations.StepNeverChangesRom := by
  unfold Obligations.StepNeverChangesRom
  intro s t hstep
  obtain ⟨u, rfl, ⟨hrom, hcart, -, -⟩, -⟩ := step_next_keepsRest hstep
  refine ⟨fun k hk => (systemTail_rom u hk).trans (hrom k hk), ?_⟩
  rw [systemTail_keeps]
  exact hcart

/-- Settles O59: the ticks do not touch `IME`, so it came on at the boundary, by the delay's last count, or by `RETI`. -/
theorem interruptsComeOnOnlyBy : Obligations.InterruptsComeOnOnlyBy := by
  unfold Obligations.InterruptsComeOnOnlyBy
  intro s t hoff hstep hon
  obtain ⟨u, rfl, -, hime⟩ := step_next_keepsRest hstep
  rw [systemTail_keeps] at hon
  refine (hime hon).imp_left fun hb => ?_
  simpa [boundary_ime, hoff] using hb

/-! ## The pairs -/

/-- A word's value from its halves, the high one first as R22 writes it. -/
theorem wordOf_value (hi lo : Byte) : (wordOf hi lo).toNat = 256 * hi.toNat + lo.toNat := by
  rw [wordOf_toNat, Nat.mul_comm]

/-- Settles O9: `LD rr,nn` and `LD SP,HL` are writes of one pair, and each pair is the word of its two registers. (The plain
name `loadPair` is the model's operation.) -/
theorem loadPair_obligation : Obligations.LoadPair := by
  unfold Obligations.LoadPair
  intro s p q nn
  refine ⟨⟨?bytes, writesR16_of (exec_ldPair p nn s), ?next⟩, ⟨rfl, writesR16_of rfl, _, rfl, wordOf_value _ _⟩,
    ⟨highByte_toNat nn, lowByte_toNat nn⟩, ?pair, ?stackPair, ?setStackPair⟩
  case bytes => cases p <;> rfl
  case next => cases p <;> rfl
  case pair =>
    cases p with
    | sp => rfl
    | bc | de | hl => exact wordOf_value _ _
  case stackPair => cases q <;> exact wordOf_value _ _
  case setStackPair => cases q <;> rfl

end Sys2Proof.Machine
end

section
/-! The memory bus (20_memory.md): what the CPU reaches at each address with and without a transfer (R61 to R83, R320),
that a pop returns what a push stored (R166, R167), and the memories after construction (R440, R445, R446). -/

namespace Sys2Proof.Machine

/-! ## The stack in plain memory -/

/-- Two successive addresses never share a storage cell, the ends of the echo range and the wrap included (R74). -/
theorem cellOf_succ_ne (a : Word) : cellOf (a + 1) ≠ cellOf a := by
  have hsucc : (a + 1).toNat = (a.toNat + 1) % 65536 := BitVec.toNat_add a 1
  have hlt := a.isLt
  rw [cellOf_eq, cellOf_eq]
  split <;> split <;> omega

/-- What a plain cell reads as after a push to plain memory: the two stores, the high byte's first (R166). -/
theorem cpuRead_push16_plain {s : State} (h1 : s.plain (s.sp - 1) = true) (h2 : s.plain (s.sp - 2) = true) (v : Word)
    {b : Word} (hb : s.plain b = true) :
    cpuRead (push16 s v) b =
      ((s.mem.write (cellOf (s.sp - 1)) (highByte v)).write (cellOf (s.sp - 2)) (lowByte v)).read (cellOf b) := by
  have h2' : (storeCell s (s.sp - 1) (highByte v)).plain (s.sp - 2) = true := h2
  rw [push16_eq, cpuWrite_plain h1, cpuWrite_plain h2']
  exact cpuRead_plain hb

/-- Settles O14: the two pushed bytes stand in different cells, so neither store hides the other from the pop. -/
theorem popReturnsWhatPushStored : Obligations.PopReturnsWhatPushStored := by
  unfold Obligations.PopReturnsWhatPushStored
  intro s v hwf h1 h2
  have hsucc : s.sp - 2 + 1 = s.sp - 1 := by bv_omega
  have hne : cellOf (s.sp - 1) ≠ cellOf (s.sp - 2) := hsucc ▸ cellOf_succ_ne (s.sp - 2)
  have hlow : cpuRead (push16 s v) (s.sp - 2) = lowByte v := by
    rw [cpuRead_push16_plain h1 h2 v h2, Memory.read_write_same (Memory.write_wf hwf _ _)]
  have hhigh : cpuRead (push16 s v) (s.sp - 1) = highByte v := by
    rw [cpuRead_push16_plain h1 h2 v h1, Memory.read_write_other hne, Memory.read_write_same hwf]
  have hsp : (push16 s v).sp = s.sp - 2 := by rw [push16_eq]
  refine ⟨?word, ?pointer⟩
  case word => rw [popWord, cpuRead16, hsp, hsucc, hlow, hhigh, wordOf_high_low]
  case pointer => rw [popped, hsp, BitVec.sub_add_cancel]

/-! ## The regions while no transfer is active -/

/-- Without a transfer the bus never refuses a read (R62, R64). -/
theorem cpuRead_of_idle {s : State} (h : s.dma.active = false) (a : Word) : cpuRead s a = regionRead s a := by
  simp [cpuRead, dmaBlocks, h]

/-- Without a transfer the bus never refuses a write (R63, R64). -/
theorem cpuWrite_of_idle {s : State} (h : s.dma.active = false) (a : Word) (v : Byte) :
    cpuWrite s a v = regionWrite s a v := by
  simp [cpuWrite, dmaBlocks, h]

/-- `VramLocked()` in the spec's words (R320). -/
theorem Ppu.vramLocked_iff (p : Ppu) :
    p.vramLocked = true ↔ p.lcdc.getLsbD 7 = true ∧ p.mode = .pixelTransfer := by
  simp [Ppu.vramLocked, Ppu.lcdOn]

/-- `OamLocked()` in the spec's words (R320). -/
theorem Ppu.oamLocked_iff (p : Ppu) :
    p.oamLocked = true ↔ p.lcdc.getLsbD 7 = true ∧ (p.mode = .oamSearch ∨ p.mode = .pixelTransfer) := by
  simp [Ppu.oamLocked, Ppu.lcdOn]

/-- Outside the echo range an address has its own cell (R74). -/
theorem cellOf_of_not_echo {a : Word} (h : regionOf a ≠ .echo) : cellOf a = a.toNat := if_neg h

/-- A store outside the echo range goes to the address itself (R74). -/
theorem storeCell_of_not_echo {a : Word} (h : regionOf a ≠ .echo) (s : State) (v : Byte) :
    storeCell s a v = { s with mem := s.mem.write a.toNat v } := by
  rw [storeCell, cellOf_of_not_echo h]

/-- An echo address is `0x2000` above the work-RAM address that has the same cell (R74). -/
theorem echo_shares_wram {a : Word} (h1 : 0xE000 ≤ a.toNat) (h2 : a.toNat < 0xFE00) :
    regionOf (a - 0x2000) = .wram ∧ cellOf (a - 0x2000) = cellOf a := by
  have hsub : (a - 0x2000).toNat = a.toNat - 0x2000 := by bv_omega
  refine ⟨?_, ?_⟩
  · rw [regionOf, hsub, if_neg (by omega), if_neg (by omega), if_neg (by omega), if_pos (by omega)]
  · rw [cellOf_eq, cellOf_eq, hsub, if_neg (by omega), if_pos ⟨h1, h2⟩]

/-- Settles O39: one case per region of R61, each in its branch of the chain of addresses. -/
theorem busByAddress : Obligations.BusByAddress := by
  unfold Obligations.BusByAddress
  intro s a v
  dsimp only
  intro hidle
  simp only [← Ppu.vramLocked_iff, ← Ppu.oamLocked_iff]
  have hread := cpuRead_of_idle hidle
  have hwrite := cpuWrite_of_idle hidle
  have hbounds := regionOf_toNat a
  cases hr : regionOf a <;> simp only [hr, reduceCtorEq, false_and, true_and, or_false, false_or] at hbounds <;>
    simp (disch := omega) only [if_pos, if_neg]
  -- the bounds of the region have chosen the branch: each goal is its region's clause
  case io =>
    obtain ⟨-, -, -, -, -, hfb, -, -⟩ := cpuWrite_frame s a v
    exact ⟨cpuWrite_keepsCpu s a v, hfb⟩
  case echo =>
    obtain ⟨hwram, hcell⟩ := echo_shares_wram hbounds.1 hbounds.2
    simp only [hread, hwrite, regionRead, regionWrite, hr, hwram, storeCell, hcell, and_self]
  case unusable | ie =>
    simp only [hread, hwrite, regionRead, regionWrite, hr, Config.unusableRead, and_self]
  case rom | vram | cartRam | wram | oam | hram =>
    have hne : regionOf a ≠ .echo := by simp [hr]
    simp only [hread, hwrite, regionRead, regionWrite, hr, cellOf_of_not_echo hne, storeCell_of_not_echo hne,
      Config.lockedRead, Config.absentRamRead, and_self]

/-! ## While a transfer is active -/

/-- From `0xFF00` up the bus never refuses a read (R64). -/
theorem cpuRead_of_high {a : Word} (h : 0xFF00 ≤ a.toNat) (s : State) : cpuRead s a = regionRead s a := by
  simp [cpuRead, dmaBlocks, h]

/-- From `0xFF00` up the bus never refuses a write (R64). -/
theorem cpuWrite_of_high {a : Word} (h : 0xFF00 ≤ a.toNat) (s : State) (v : Byte) :
    cpuWrite s a v = regionWrite s a v := by
  simp [cpuWrite, dmaBlocks, h]

/-- A read from `0xFF00` up does not depend on whether a transfer is active (R64, R83). -/
theorem cpuRead_with_active {a : Word} (h : 0xFF00 ≤ a.toNat) (s : State) (active : Bool) :
    cpuRead { s with dma := { s.dma with active := active } } a = cpuRead s a := by
  rw [cpuRead_of_high h, cpuRead_of_high h]
  rfl

/-- A write of the I/O page other than the trigger neither depends on the sequencer nor touches it (R77, R382). -/
theorem writeIo_with_dma {a : Word} (ha : a ≠ 0xFF46) (s : State) (v : Byte) (d : Dma) :
    writeIo { s with dma := d } a v = { writeIo s a v with dma := d } := by
  have haddr := ioRegOf_cases a
  unfold writeIo
  cases hr : ioRegOf a with
  | dma => exact absurd (by simpa [hr] using haddr) ha
  | ifr | lcdc | stat | scy | scx | ly | lyc | bgp | obp0 | obp1 | wy | wx | cell => rfl

/-- A write that the bus accepts, other than the trigger, neither depends on the sequencer nor touches it (R382). -/
theorem regionWrite_with_dma {a : Word} (ha : a ≠ 0xFF46) (s : State) (v : Byte) (d : Dma) :
    regionWrite { s with dma := d } a v = { regionWrite s a v with dma := d } := by
  unfold regionWrite
  cases regionOf a with
  | io => exact writeIo_with_dma ha s v d
  | vram | cartRam | oam => dsimp only; split <;> rfl
  | rom | wram | echo | unusable | hram | ie => rfl

/-- Settles O40: below `0xFF00` the bus refuses the CPU; above, only the trigger sees the sequencer. -/
theorem transferBlocksTheCpu : Obligations.TransferBlocksTheCpu := by
  unfold Obligations.TransferBlocksTheCpu
  intro s a v hactive
  split
  case isTrue hlow =>
    have hblocked : dmaBlocks s a = true := by simp [dmaBlocks, hactive, hlow]
    exact ⟨if_pos hblocked, if_pos hblocked⟩
  case isFalse hhigh =>
    have hfree : 0xFF00 ≤ a.toNat := Nat.le_of_not_lt hhigh
    refine ⟨(cpuRead_with_active hfree s false).symm, fun ha => ?other, fun ha => ?trigger⟩
    case other =>
      rw [cpuWrite_of_high hfree, cpuWrite_of_high hfree]
      exact regionWrite_with_dma ha { s with dma := { s.dma with active := false } } v s.dma
    case trigger =>
      subst ha
      exact cpuWrite_io s v (by decide) (by decide)

/-! ## The registers as they read -/

/-- A read of `IF`: the three bits that are not stored are 1 (R78). -/
theorem ifr_read_eq (ifr : BitVec 5) : 0b111#3 ++ ifr = 0xE0#8 ||| ifr.setWidth 8 := by
  revert ifr; decide

/-- The fields of a read of `STAT`, shifted to their places (R301). -/
theorem stat_fields_eq : ∀ (en : BitVec 4) (eq : Bool) (code : BitVec 2),
    (1#1 ++ en ++ BitVec.ofBool eq ++ code : Byte) =
      0x80 ||| en.setWidth 8 <<< 3 ||| (if eq then 0x04 else 0x00) ||| code.setWidth 8 := by
  decide

/-- A read of `STAT` as a sum of its fields (R301, R303). -/
theorem Ppu.readStat_eq (p : Ppu) :
    p.readStat = 0x80 ||| p.statEn.setWidth 8 <<< 3 ||| (if p.ly = p.lyc.toNat then 0x04 else 0x00) |||
      p.mode.code.setWidth 8 := by
  rw [Ppu.readStat, stat_fields_eq]
  simp only [Ppu.lycEq, beq_iff_eq]

/-- An address of the page that no register has names a plain cell (R81). -/
theorem ioRegOf_eq_cell {a : Word} (h0F : a ≠ 0xFF0F) (hlcd : ¬ (0xFF40 ≤ a.toNat ∧ a.toNat ≤ 0xFF4B)) :
    ioRegOf a = .cell := by
  have hne : ∀ r : Word, 0xFF40 ≤ r.toNat → r.toNat ≤ 0xFF4B → a ≠ r := by
    rintro r h1 h2 rfl
    exact hlcd ⟨h1, h2⟩
  simp (disch := decide) only [ioRegOf, h0F, hne, if_false]

/-- Settles O41: each register's address is in the page, where a read gives the register of that address. -/
theorem registerReads : Obligations.RegisterReads := by
  unfold Obligations.RegisterReads
  intro s
  dsimp only
  have hreg (a : Word) (h : 0xFF00 ≤ a.toNat ∧ a.toNat < 0xFF80 := by decide) : cpuRead s a = readIo s a :=
    cpuRead_io s h.1 h.2
  refine ⟨?ifr, hreg 0xFF40, ?stat, hreg 0xFF42, hreg 0xFF43, hreg 0xFF44, hreg 0xFF45, hreg 0xFF46, hreg 0xFF47,
    hreg 0xFF48, hreg 0xFF49, hreg 0xFF4A, hreg 0xFF4B, fun a h1 h2 h0F hlcd => ?cell⟩
  case ifr => exact (hreg 0xFF0F).trans (ifr_read_eq s.ifr)
  case stat =>
    refine (hreg 0xFF41).trans (s.ppu.readStat_eq.trans ?_)
    cases s.ppu.mode <;> rfl
  case cell => rw [cpuRead_io s h1 h2, readIo, ioRegOf_eq_cell h0F hlcd]

/-! ## Construction -/

/-- One entry of `INIT_RAM`: written where its address is a cell above ROM, ignored elsewhere (R445, R446). -/
theorem initialMemory_append (image : List Byte) (initRam : List Host.Cell) (p : Host.Cell) :
    initialMemory image (initRam ++ [p]) =
      if Config.romSize ≤ p.1 && isCell p.1 then (initialMemory image initRam).write p.1 p.2
      else initialMemory image initRam := by
  simp only [initialMemory, List.foldl_append, List.foldl_cons, List.foldl_nil]

/-- The initial memories are in the canonical form. -/
theorem initialMemory_wf (image : List Byte) (initRam : List Host.Cell) : (initialMemory image initRam).wf := by
  induction initRam using List.reverseRecOn with
  | nil => exact Memory.ofBytes_wf 0 _
  | append_singleton l p ih =>
    rw [initialMemory_append]
    split
    · exact Memory.write_wf ih _ _
    · exact ih

/-- Every byte of the image in ROM has a cell. -/
theorem romOf_backed (image : List Byte) : (romOf image).backed := by
  intro p hp
  obtain ⟨-, hlt, -⟩ := Memory.mem_ofBytes hp
  have hlen : (image.take Config.romSize).length ≤ 0x8000 := List.length_take_le _ _
  have h : p.1 < 0xE000 := by omega
  simp [isCell, h]

/-- The initial memories hold bytes of real cells only. -/
theorem initialMemory_backed (image : List Byte) (initRam : List Host.Cell) :
    (initialMemory image initRam).backed := by
  induction initRam using List.reverseRecOn with
  | nil => exact romOf_backed image
  | append_singleton l p ih =>
    rw [initialMemory_append]
    split
    next h => exact Memory.write_backed ih _ (Bool.and_eq_true_iff.1 h).2
    next => exact ih

/-- No entry of `INIT_RAM` reaches ROM (R70, R445). -/
theorem initialMemory_read_rom (image : List Byte) (initRam : List Host.Cell) {k : Nat} (hk : k < 0x8000) :
    (initialMemory image initRam).read k = (romOf image).read k := by
  induction initRam using List.reverseRecOn with
  | nil => rfl
  | append_singleton l p ih =>
    rw [initialMemory_append]
    split
    next h =>
      have hp : 0x8000 ≤ p.1 := of_decide_eq_true (Bool.and_eq_true_iff.1 h).1
      rw [Memory.read_write_other (by omega), ih]
    next => exact ih

/-- ROM holds the image's bytes (R70). -/
theorem romOf_read (image : List Byte) {k : Nat} (hk : k < image.length) (hrom : k < 0x8000) :
    (romOf image).read k = image[k] := by
  have h := Memory.read_ofBytes 0 (image.take Config.romSize) k
  have hlen : k < (image.take Config.romSize).length := by
    rw [List.length_take]; exact lt_min hrom hk
  rw [Nat.zero_add, dif_pos hlen, List.getElem_take] at h
  exact h

/-- Above ROM the image has no byte (R445). -/
theorem romOf_read_above (image : List Byte) {k : Nat} (hk : 0x8000 ≤ k) :
    (romOf image).read k = Config.unwritten := by
  refine Memory.read_of_not_listed fun p hp => ?_
  obtain ⟨-, hlt, -⟩ := Memory.mem_ofBytes hp
  have hlen : (image.take Config.romSize).length ≤ 0x8000 := List.length_take_le _ _
  omega

/-- A cell above ROM holds the last byte that `INIT_RAM` lists for it (R445, R446). -/
theorem initialMemory_read_ram (image : List Byte) (initRam : List Host.Cell) {k : Nat} (hk : 0x8000 ≤ k)
    (hc : isCell k = true) :
    (initialMemory image initRam).read k =
      ((initRam.reverse.find? (fun p => p.1 == k)).map (fun p => p.2)).getD Config.unwritten := by
  induction initRam using List.reverseRecOn with
  | nil => exact romOf_read_above image hk
  | append_singleton l p ih =>
    rw [initialMemory_append, List.reverse_concat, List.find?_cons]
    by_cases hp : p.1 = k
    · have hin : (Config.romSize ≤ p.1 && isCell p.1) = true := by
        rw [hp, hc, Bool.and_true]; exact decide_eq_true hk
      rw [if_pos hin, hp, beq_self_eq_true]
      exact Memory.read_write_same (initialMemory_wf image l) k p.2
    · rw [beq_false_of_ne hp]
      split
      · rw [Memory.read_write_other (Ne.symm hp), ih]
      · exact ih

/-- Settles O55: construction changes the memories and the presence of cartridge RAM alone; the memories are canonical. -/
theorem construction : Obligations.Construction := by
  unfold Obligations.Construction
  intro image initRam cartRam
  split
  case isTrue hshort => exact if_pos hshort
  case isFalse hlong =>
    obtain ⟨hf, hdelay, hime, hppu, hdma, -, -⟩ := resetMeetsInvariant
    refine ⟨_, if_neg hlong, ?inv, rfl, rfl, fun k hk hrom => ?rom, fun k hk hc => ?ram⟩
    case inv =>
      exact ⟨hf, hdelay, hime, hppu, hdma, initialMemory_wf image initRam, initialMemory_backed image initRam⟩
    case rom => exact (initialMemory_read_rom image initRam hrom).trans (romOf_read image hk hrom)
    case ram => exact initialMemory_read_ram image initRam hk hc

end Sys2Proof.Machine
end

section
/-! Encoding and decoding (30_encoding.md): an instruction is read back from its bytes, and bytes are written back from the
instruction read (R100, R102, R110 to R117); and the length as a function of the first byte (R116). -/

namespace Sys2Proof.Machine

/-! ## From an instruction to its bytes and back -/

/-- `i` is read back from its own bytes, whatever follows them. -/
def ReadsBack (i : Instr) : Prop := ∀ rest, decode (encode i ++ rest) = .ok (i, rest)

/-- Bytes as long as the first one says are cut off, and what follows them is left. -/
theorem decode_append {b0 : Byte} {ops : List Byte} (hlen : lengthOf b0 = ops.length + 1) (rest : List Byte) :
    decode (b0 :: ops ++ rest) =
      .ok (decodeBytes b0 ((ops ++ rest).getD 0 0) ((ops ++ rest).getD 1 0), rest) := by
  have hlong : ¬ (ops ++ rest).length + 1 < lengthOf b0 := by rw [hlen, List.length_append]; omega
  have hdrop : (ops ++ rest).drop (lengthOf b0 - 1) = rest := by rw [hlen]; exact List.drop_left
  rw [List.cons_append, decode, if_neg hlong, hdrop]

/-- A row of the opcode byte alone. -/
theorem readsBack_opcode {i : Instr} {b0 : Byte} (he : encode i = [b0]) (hl : lengthOf b0 = 1)
    (hd : ∀ n1 n2, decodeBytes b0 n1 n2 = i) : ReadsBack i := fun rest => by
  rw [he, decode_append hl, hd]

/-- A row with a byte after the opcode: `n` or `e` (R110, R112). -/
theorem readsBack_byte {i : Instr} {b0 n : Byte} (he : encode i = [b0, n]) (hl : lengthOf b0 = 2)
    (hd : ∀ n2, decodeBytes b0 n n2 = i) : ReadsBack i := fun rest => by
  rw [he, decode_append hl]
  exact congrArg (fun j => Except.ok (j, rest)) (hd _)

/-- A row with a word after the opcode, the low byte first: `nn` (R111). -/
theorem readsBack_word {row : Word → Instr} {b0 : Byte} (nn : Word)
    (he : encode (row nn) = [b0, lowByte nn, highByte nn]) (hl : lengthOf b0 = 3)
    (hd : ∀ lo hi, decodeBytes b0 lo hi = row (wordOf hi lo)) : ReadsBack (row nn) := fun rest => by
  have hrow : decodeBytes b0 (lowByte nn) (highByte nn) = row nn := by rw [hd, wordOf_high_low]
  rw [he, decode_append hl]
  exact congrArg (fun j => Except.ok (j, rest)) hrow

/-- Every row is read back: each has one of the three shapes, and a prefixed row (R114) is a byte after the opcode `0xCB`. -/
theorem instr_readsBack (i : Instr) : ReadsBack i := by
  refine instr_byFamily ReadsBack ?ldReg ?ldImm ?ldFromHl ?ldToHl ?aluReg ?aluMem ?aluImm ?incReg
    ?decReg ?ldPair ?addHl ?incPair ?decPair ?push ?pop ?jrIf ?jpIf ?callIf ?retIf ?rst ?shiftReg ?shiftMem ?bitReg ?bitMem
    ?resReg ?resMem ?setReg ?setMem ?ldMNnSp ?stop ?jrE ?ldMHlN ?jpNn ?callNn ?ldhMNA ?addSpE ?ldMNnA ?ldhAMN ?ldHlSpE
    ?ldAMNn ?nop ?ldMBcA ?rlca ?ldAMBc ?rrca ?ldMDeA ?rla ?ldAMDe ?rra ?ldMHliA ?daa ?ldAMHli ?cpl ?ldMHldA ?incMHl ?decMHl
    ?scf ?ldAMHld ?ccf ?halt ?ret ?illegalD3 ?reti ?illegalDB ?illegalDD ?ldhMCA ?illegalE3 ?illegalE4 ?jpHl ?illegalEB
    ?illegalEC ?illegalED ?ldhAMC ?di ?illegalF4 ?ldSpHl ?ei ?illegalFC ?illegalFD i
  case ldReg => intro rd r; cases rd <;> cases r <;> exact readsBack_opcode rfl rfl fun _ _ => rfl
  case aluReg => intro op r; cases op <;> cases r <;> exact readsBack_opcode rfl rfl fun _ _ => rfl
  case ldFromHl | ldToHl | aluMem | incReg | decReg | addHl | incPair | decPair | push | pop | retIf | rst =>
    intro x; cases x <;> exact readsBack_opcode rfl rfl fun _ _ => rfl
  case ldImm | aluImm | jrIf => intro x n; cases x <;> exact readsBack_byte rfl rfl fun _ => rfl
  case ldPair => intro p nn; cases p <;> exact readsBack_word nn rfl rfl fun _ _ => rfl
  case jpIf | callIf => intro cc nn; cases cc <;> exact readsBack_word nn rfl rfl fun _ _ => rfl
  case shiftReg | bitReg | resReg | setReg =>
    intro x r; cases x <;> cases r <;> exact readsBack_byte rfl rfl fun _ => rfl
  case shiftMem | bitMem | resMem | setMem => intro x; cases x <;> exact readsBack_byte rfl rfl fun _ => rfl
  case ldMNnSp | jpNn | callNn | ldMNnA | ldAMNn => intro nn; exact readsBack_word nn rfl rfl fun _ _ => rfl
  case stop | jrE | ldMHlN | ldhMNA | addSpE | ldhAMN | ldHlSpE => intro n; exact readsBack_byte rfl rfl fun _ => rfl
  all_goals exact readsBack_opcode rfl rfl fun _ _ => rfl

/-- Settles O1: every row has one of three shapes, and each shape is read back. -/
theorem decodeInvertsEncode : Obligations.DecodeInvertsEncode := by
  unfold Obligations.DecodeInvertsEncode
  exact instr_readsBack

/-- An instruction's own bytes decode to it with nothing left. -/
theorem decode_of_encode {i : Instr} {bytes : List Byte} (h : encode i = bytes) : decode bytes = .ok (i, []) := by
  rw [← h, ← List.append_nil (encode i)]
  exact instr_readsBack i []

/-- Settles O4: the first fourteen words are encodings, which are read back, and the last is cut short. -/
theorem sampleWordsDecode : Obligations.SampleWordsDecode := by
  unfold Obligations.SampleWordsDecode
  refine ⟨?_, ?_, ?_, ?_, ?_, ?_, ?_, ?_, ?_, ?_, ?_, ?_, ?_, ?_, ?truncated⟩
  case truncated => rfl
  all_goals exact decode_of_encode rfl

/-! ## From bytes to the instruction and back -/

/-- The bytes of the row at `b0` with the operands `n1` and `n2`, where a word's bytes are those of the word read. -/
def rowBytes (b0 n1 n2 : Byte) : List Byte :=
  match lengthOf b0 with
  | 1 => [b0]
  | 2 => [b0, n1]
  | _ => [b0, lowByte (wordOf n2 n1), highByte (wordOf n2 n1)]

/-- A byte from its fields (R101). -/
theorem opcode_fields (b : Byte) : opcode (64 * fieldX b + 8 * fieldY b + fieldZ b) = b := by
  have hb := b.isLt
  apply BitVec.eq_of_toNat_eq
  simp only [opcode, fieldX, fieldY, fieldZ, BitVec.toNat_ofNat]
  omega

theorem fieldX_lt (b : Byte) : fieldX b < 4 := by have hb := b.isLt; unfold fieldX; omega

theorem fieldY_lt (b : Byte) : fieldY b < 8 := Nat.mod_lt _ (by decide)

theorem fieldZ_lt (b : Byte) : fieldZ b < 8 := Nat.mod_lt _ (by decide)

/-- No instruction is empty and none is longer than three bytes (R100). -/
theorem lengthOf_range (b0 : Byte) : lengthOf b0 = 1 ∨ lengthOf b0 = 2 ∨ lengthOf b0 = 3 := by
  revert b0; decide +kernel

theorem rowBytes_eq_take (b0 n1 n2 : Byte) : rowBytes b0 n1 n2 = [b0, n1, n2].take (lengthOf b0) := by
  unfold rowBytes
  obtain h | h | h := lengthOf_range b0 <;> simp [h]

/-- The prefixed map, byte by byte (R114, R117). -/
theorem encode_decodeCb (b : Byte) : encode (decodeCb b) = [0xCB, b] := by
  revert b; decide +kernel

/-! The four quarters of the opcode map, row by row (R113). -/

section
variable {y z : Nat} (hy : y < 8) (hz : z < 8) (n1 n2 : Byte)
include hy hz

theorem encode_decodeX0 : encode (decodeX0 y z n1 n2) = rowBytes (opcode (64 * 0 + 8 * y + z)) n1 n2 := by
  interval_cases z <;> interval_cases y <;> rfl

theorem encode_decodeX1 : encode (decodeX1 y z) = rowBytes (opcode (64 * 1 + 8 * y + z)) n1 n2 := by
  interval_cases z <;> interval_cases y <;> rfl

theorem encode_decodeX2 : encode (decodeX2 y z) = rowBytes (opcode (64 * 2 + 8 * y + z)) n1 n2 := by
  interval_cases z <;> interval_cases y <;> rfl

/-- The quarter in which `0xCB` stands, at `z = 3`, `y = 1`, before a byte of the other map. -/
theorem encode_decodeX3 : encode (decodeX3 y z n1 n2) = rowBytes (opcode (64 * 3 + 8 * y + z)) n1 n2 := by
  obtain hz3 | rfl | hz3 := lt_trichotomy z 3
  · interval_cases z <;> interval_cases y <;> rfl
  · obtain hy1 | rfl | hy1 := lt_trichotomy y 1
    · interval_cases y; rfl
    · exact encode_decodeCb n1
    · interval_cases y <;> rfl
  · interval_cases z <;> interval_cases y <;> rfl

end

/-- What is decoded has the bytes of the row of its first byte. -/
theorem encode_decodeBytes (b0 n1 n2 : Byte) : encode (decodeBytes b0 n1 n2) = rowBytes b0 n1 n2 := by
  have hy := fieldY_lt b0
  have hz := fieldZ_lt b0
  have hb := opcode_fields b0
  have hx : fieldX b0 = 0 ∨ fieldX b0 = 1 ∨ fieldX b0 = 2 ∨ fieldX b0 = 3 := by have := fieldX_lt b0; omega
  unfold decodeBytes
  obtain h | h | h | h := hx <;> rw [h] at hb ⊢
  · exact (encode_decodeX0 hy hz n1 n2).trans (by rw [hb])
  · exact (encode_decodeX1 hy hz n1 n2).trans (by rw [hb])
  · exact (encode_decodeX2 hy hz n1 n2).trans (by rw [hb])
  · exact (encode_decodeX3 hy hz n1 n2).trans (by rw [hb])

/-- Settles O2: every row of each quarter of the map, and of the prefixed map, is written back. -/
theorem encodeInvertsDecode : Obligations.EncodeInvertsDecode := by
  unfold Obligations.EncodeInvertsDecode
  intro b0 n1 n2
  rw [encode_decodeBytes, rowBytes_eq_take]

/-! ## The length -/

/-- The length decoded is the one the first byte gives. -/
theorem decodeBytes_length (b0 n1 n2 : Byte) : (decodeBytes b0 n1 n2).length = lengthOf b0 := by
  have hle : lengthOf b0 ≤ 3 := by have := lengthOf_range b0; omega
  rw [Instr.length, encodeInvertsDecode, List.length_take]
  exact Nat.min_eq_left hle

/-- Settles O3: the length is a function of the first byte, and at each of the 256 it is R116's. -/
theorem lengthFromFirstByte : Obligations.LengthFromFirstByte := by
  unfold Obligations.LengthFromFirstByte
  intro b0 n1 n2
  rw [decodeBytes_length]
  revert b0; decide +kernel

end Sys2Proof.Machine
end

section
/-! Completion (30_encoding.md R115, R120; 60_exceptions.md R400): every instruction but an unassigned byte answers a next
state, so that nothing else stops a step; and the jumps (R250 to R254). -/

namespace Sys2Proof.Machine

/-! ## Every instruction completes -/

/-- A next state, whose cycles are a whole number of machine cycles, one to six (R120). -/
def Completes (r : Result) : Prop := ∃ t, r = .next t ∧ t.cycles % 4 = 0 ∧ 4 ≤ t.cycles ∧ t.cycles ≤ 24

theorem completes_done {n : Nat} (s : State) (hn : n % 4 = 0 ∧ 4 ≤ n ∧ n ≤ 24) : Completes (done n s) := ⟨_, rfl, hn⟩

/-- A conditional transfer completes when both outcomes do. -/
theorem completes_ite {c : Prop} [Decidable c] {r q : Result} (hr : Completes r) (hq : Completes q) :
    Completes (if c then r else q) := by
  split
  · exact hr
  · exact hq

/-- Every instruction but the unassigned rows ends in `done`, on each path. -/
theorem exec_completes (s : State) (i : Instr) : i.wf = true → Completes (exec i s) := by
  refine instr_byFamily (fun i => i.wf = true → Completes (exec i s)) ?ldReg ?ldImm ?ldFromHl ?ldToHl ?aluReg ?aluMem ?aluImm
    ?incReg ?decReg ?ldPair ?addHl ?incPair ?decPair ?push ?pop ?jrIf ?jpIf ?callIf ?retIf ?rst ?shiftReg ?shiftMem ?bitReg
    ?bitMem ?resReg ?resMem ?setReg ?setMem ?ldMNnSp ?stop ?jrE ?ldMHlN ?jpNn ?callNn ?ldhMNA ?addSpE ?ldMNnA ?ldhAMN
    ?ldHlSpE ?ldAMNn ?nop ?ldMBcA ?rlca ?ldAMBc ?rrca ?ldMDeA ?rla ?ldAMDe ?rra ?ldMHliA ?daa ?ldAMHli ?cpl ?ldMHldA ?incMHl
    ?decMHl ?scf ?ldAMHld ?ccf ?halt ?ret ?illegalD3 ?reti ?illegalDB ?illegalDD ?ldhMCA ?illegalE3 ?illegalE4 ?jpHl
    ?illegalEB ?illegalEC ?illegalED ?ldhAMC ?di ?illegalF4 ?ldSpHl ?ei ?illegalFC ?illegalFD i
  case illegalD3 | illegalDB | illegalDD | illegalE3 | illegalE4 | illegalEB | illegalEC | illegalED | illegalF4 |
      illegalFC | illegalFD => exact nofun
  case jrIf | jpIf | callIf | retIf =>
    intros
    simp only [exec_jrIf, exec_jpIf, exec_callIf, exec_retIf]
    exact completes_ite (completes_done _ (by decide)) (completes_done _ (by decide))
  case ldReg | ldImm | ldFromHl | ldToHl | aluReg | aluMem | aluImm | incReg | decReg | ldPair | addHl | incPair | decPair |
      push | pop | rst | shiftReg | shiftMem | bitReg | bitMem | resReg | resMem | setReg | setMem =>
    intros
    simp only [exec_ldReg, exec_ldImm, exec_ldFromHl, exec_ldToHl, exec_aluReg, exec_aluMem, exec_aluImm, exec_incReg,
      exec_decReg, exec_ldPair, exec_addHl, exec_incPair, exec_decPair, exec_push, exec_pop, exec_rst, exec_shiftReg,
      exec_shiftMem, exec_bitReg, exec_bitMem, exec_resReg, exec_resMem, exec_setReg, exec_setMem]
    exact completes_done _ (by decide)
  all_goals intros; exact completes_done _ (by decide)

/-- Settles O31: every path of an assigned row ends in `done` with a count in the range. -/
theorem everyInstructionCompletes : Obligations.EveryInstructionCompletes := by
  unfold Obligations.EveryInstructionCompletes
  exact fun i s => exec_completes s i

/-! ## What stops a step -/

/-- An unassigned row is one byte of R115 and raises the fault of that byte (R277). -/
theorem exec_unassigned {i : Instr} (h : i.unassigned = true) :
    ∃ op ∈ unassignedBytes, encode i = [op] ∧ ∀ s, exec i s = illegalOpcode op s := by
  cases i
  case illegalD3 | illegalDB | illegalDD | illegalE3 | illegalE4 | illegalEB | illegalEC | illegalED | illegalF4 |
      illegalFC | illegalFD => exact ⟨_, by decide, rfl, fun _ => rfl⟩
  all_goals cases h

/-- An unassigned row raises the fault of the byte it was decoded from. -/
theorem exec_decodeBytes_unassigned {b0 n1 n2 : Byte} (h : (decodeBytes b0 n1 n2).unassigned = true) :
    b0 ∈ unassignedBytes ∧ ∀ s, exec (decodeBytes b0 n1 n2) s = illegalOpcode b0 s := by
  obtain ⟨op, hop, he, hexec⟩ := exec_unassigned h
  have hhead : b0 = op := by
    rw [encode_decodeBytes, rowBytes] at he
    split at he <;> cases he
    rfl
  rw [hhead] at hexec ⊢
  exact ⟨hop, hexec⟩

/-- The boundary actions leave `PC` and every byte as the CPU reads it (R410). -/
theorem boundary_fetch (s : State) : (boundary s).pc = s.pc ∧ ReadsSame s (boundary s) := by
  rw [boundary, wake_keeps, countdown_keeps]
  exact ⟨rfl, fun x => cpuRead_congr rfl rfl rfl rfl rfl rfl x⟩

theorem step_of_terminal {s : State} {op : Byte} {addr : Word} (h : beginStep s = .terminal op addr) :
    step s = .fault (.illegalOpcode op addr s) := by simp only [step, h]

theorem step_of_over {s t : State} (h : beginStep s = .over t) : step s = .next (systemTail t) := by simp only [step, h]

/-- A fetched instruction answers a next state, so the step does (R8). -/
theorem step_of_run_wf {s t : State} (h : beginStep s = .run t) (hwf : (fetchInstr t).unassigned = false) :
    ∃ u, step s = .next u := by
  obtain ⟨u, he, -⟩ := exec_completes (fetched t) (fetchInstr t) (by rw [Instr.wf, hwf]; rfl)
  exact ⟨systemTail u, by simp only [step, h, he]⟩

/-- A fetched unassigned byte faults at `PC`, before `PC` moves (R103, R277). -/
theorem step_of_run_unassigned {s t : State} (h : beginStep s = .run t) (hun : (fetchInstr t).unassigned = true) :
    cpuRead t t.pc ∈ unassignedBytes ∧ ∃ final, step s = .fault (.illegalOpcode (cpuRead t t.pc) t.pc final) := by
  obtain ⟨hmem, hexec⟩ := exec_decodeBytes_unassigned hun
  have hfetched : fetched t = t := if_pos hun
  have he : exec (fetchInstr t) (fetched t) = illegalOpcode (cpuRead t t.pc) t := by rw [hfetched]; exact hexec t
  exact ⟨hmem, _, by simp only [step, h, he]; rfl⟩

/-- Settles O38: of the branches of a step, the faulted one reports its fault again, the idle ones and a dispatch answer a
next state, and so does a fetch unless the byte at `PC` is unassigned. -/
theorem onlyUnassignedBytesStop : Obligations.OnlyUnassignedBytesStop := by
  unfold Obligations.OnlyUnassignedBytesStop
  intro s
  obtain ⟨op, addr, hf, hb⟩ | ⟨-, ⟨-, hb⟩ | ⟨-, -, hb⟩ | ⟨-, -, hb⟩ | ⟨-, -, -, hb⟩⟩ := beginStep_cases s
  case inl => exact .inr ⟨op, addr, s, step_of_terminal hb, .inl hf⟩
  case inr.inl | inr.inr.inl | inr.inr.inr.inl => exact .inl ⟨_, step_of_over hb⟩
  case inr.inr.inr.inr =>
    cases hun : (fetchInstr (boundary s)).unassigned with
    | false => exact .inl (step_of_run_wf hb hun)
    | true =>
      obtain ⟨hpc, hread⟩ := boundary_fetch s
      obtain ⟨hmem, final, hstep⟩ := step_of_run_unassigned hb hun
      rw [hpc, hread] at hmem hstep
      exact .inr ⟨_, _, final, hstep, .inr ⟨hmem, rfl, rfl⟩⟩

/-! ## The jumps -/

theorem jumpsTo_jpIf_taken {s : State} {cc : Cond} (h : s.cond cc = true) (nn : Word) :
    JumpsTo (Instr.jpIf cc nn) s nn 16 := jumpsTo_of (by rw [exec_jpIf, jumpIf, if_pos h]; rfl)

theorem jumpsTo_jpIf_not_taken {s : State} {cc : Cond} (h : s.cond cc = false) (nn : Word) :
    JumpsTo (Instr.jpIf cc nn) s s.pc 12 := jumpsTo_of (by rw [exec_jpIf, jumpIf, h]; rfl)

theorem jumpsTo_jrIf_taken {s : State} {cc : Cond} (h : s.cond cc = true) (e : Byte) :
    JumpsTo (Instr.jrIf cc e) s (addDisplacement s.pc e) 12 := jumpsTo_of (by rw [exec_jrIf, jumpRelIf, if_pos h]; rfl)

theorem jumpsTo_jrIf_not_taken {s : State} {cc : Cond} (h : s.cond cc = false) (e : Byte) :
    JumpsTo (Instr.jrIf cc e) s s.pc 8 := jumpsTo_of (by rw [exec_jrIf, jumpRelIf, h]; rfl)

/-- Settles O26: each jump is a move of `PC`, to the target or, where the condition fails, to where it stands. -/
theorem jumps : Obligations.Jumps := by
  unfold Obligations.Jumps
  intro s cc nn e taken target
  have hcond : s.cond cc = taken := by cases cc <;> rfl
  refine ⟨⟨rfl, jumpsTo_of rfl⟩,
    ⟨?jpBytes, fun h => jumpsTo_jpIf_taken (hcond.trans h) nn, fun h => jumpsTo_jpIf_not_taken (hcond.trans h) nn⟩,
    ⟨rfl, jumpsTo_of rfl⟩, ⟨rfl, jumpsTo_of rfl⟩,
    ⟨?jrBytes, fun h => jumpsTo_jrIf_taken (hcond.trans h) e, fun h => jumpsTo_jrIf_not_taken (hcond.trans h) e⟩⟩
  case jpBytes => cases cc <;> rfl
  case jrBytes => cases cc <;> rfl

end Sys2Proof.Machine
end

section
/-! 8-bit loads and stores (40_load8.md R130 to R149): each row's bytes, and its effect as one of the forms of the Safety
file, from the equation of its operation. -/

namespace Sys2Proof.Machine

/-! ## Loads of a register -/

theorem encode_ldReg (rd r : R8) : encode (Instr.ldReg rd r) = [opcode (0x40 + 8 * rd.code + r.code)] := by
  cases rd <;> cases r <;> rfl

theorem encode_ldImm (rd : R8) (n : Byte) : encode (Instr.ldImm rd n) = [opcode (0x06 + 8 * rd.code), n] := by
  cases rd <;> rfl

theorem encode_ldFromHl (rd : R8) : encode (Instr.ldFromHl rd) = [opcode (0x46 + 8 * rd.code)] := by
  cases rd <;> rfl

/-- Settles O5: each of the three families writes `rd` and no other register. -/
theorem loadRegister : Obligations.LoadRegister := by
  unfold Obligations.LoadRegister
  intro s rd r n
  refine ⟨⟨encode_ldReg rd r, writesR8_of (exec_ldReg rd r s)⟩, ⟨encode_ldImm rd n, writesR8_of (exec_ldImm rd n s)⟩,
    ⟨encode_ldFromHl rd, writesR8_of (exec_ldFromHl rd s)⟩, ?names⟩
  case names => cases r <;> rfl

/-! ## Stores of one byte -/

theorem encode_ldToHl (r : R8) : encode (Instr.ldToHl r) = [opcode (0x70 + r.code)] := by
  cases r <;> rfl

/-- An instruction that stores one byte and changes no register. -/
theorem storesByte_of_done {i : Instr} {s : State} {a : Word} {v : Byte} {n : Nat}
    (h : exec i s = done n (cpuWrite s a v)) : StoresByte i s a v (fun u => { u with cycles := n }) :=
  storesByte_of h fun _ => ⟨rfl, rfl, rfl, rfl, rfl, rfl⟩

/-- Settles O6: each row ends in `done` after one write on the bus; the high-page rows after `highPage` is read as a sum. -/
theorem storeOneByte : Obligations.StoreOneByte := by
  unfold Obligations.StoreOneByte
  intro s r n nn
  rw [← highPage_eq n, ← highPage_eq s.c]
  exact ⟨⟨encode_ldToHl r, storesByte_of_done (exec_ldToHl r s)⟩, ⟨rfl, storesByte_of_done rfl⟩,
    ⟨rfl, storesByte_of_done rfl⟩, ⟨rfl, storesByte_of_done rfl⟩, ⟨rfl, storesByte_of_done rfl⟩,
    ⟨rfl, storesByte_of_done rfl⟩, ⟨rfl, storesByte_of_done rfl⟩⟩

/-! ## Loads of `A` -/

/-- Settles O7: each row writes `A` with the byte read; the high-page rows after `highPage` is read as a sum. -/
theorem loadAccumulator : Obligations.LoadAccumulator := by
  unfold Obligations.LoadAccumulator
  intro s n nn
  rw [← highPage_eq n, ← highPage_eq s.c]
  exact ⟨⟨rfl, writesR8_of rfl⟩, ⟨rfl, writesR8_of rfl⟩, ⟨rfl, writesR8_of rfl⟩, ⟨rfl, writesR8_of rfl⟩,
    ⟨rfl, writesR8_of rfl⟩⟩

/-! ## `A` through a moving `HL` -/

/-- An instruction that stores one byte and then writes `HL`. -/
theorem storesByte_of_setHl {i : Instr} {s : State} {a w : Word} {v : Byte} {n : Nat}
    (h : exec i s = done n ((cpuWrite s a v).setHl w)) :
    StoresByte i s a v (fun u => { u with h := highByte w, l := lowByte w, cycles := n }) :=
  storesByte_of h fun _ => ⟨rfl, rfl, rfl, rfl, rfl, rfl⟩

/-- An instruction that writes `A` and `HL`. -/
theorem writesAHl_of {i : Instr} {s : State} {v : Byte} {w : Word} {n : Nat}
    (h : exec i s = done n ((s.setR8 .a v).setHl w)) :
    ∃ t, exec i s = .next t ∧ ReadsSame s t ∧
      t = { s with a := v, h := highByte w, l := lowByte w, cycles := n } :=
  ⟨_, h, fun x => cpuRead_congr rfl rfl rfl rfl rfl rfl x, rfl⟩

/-- Settles O8: the bus is reached at the old `HL`, and the new one is written after it, whatever the bus did. -/
theorem accumulatorThroughMovingHl : Obligations.AccumulatorThroughMovingHl := by
  unfold Obligations.AccumulatorThroughMovingHl
  intro s
  exact ⟨⟨rfl, storesByte_of_setHl rfl⟩, ⟨rfl, storesByte_of_setHl rfl⟩, ⟨rfl, writesAHl_of rfl⟩, ⟨rfl, writesAHl_of rfl⟩⟩

end Sys2Proof.Machine
end

section
/-! 16-bit loads and the stack (41_load16_stack.md R161 to R167, R218, R219): each row's bytes, and its effect as one of the
forms of the Safety file, from the equation of its operation. -/

namespace Sys2Proof.Machine

/-! ## Stores of a word -/

/-- Settles O10: the row is the two bus writes of a word, low byte first, and touches no register. -/
theorem storeStackPointer : Obligations.StoreStackPointer := by
  unfold Obligations.StoreStackPointer
  exact fun s nn => ⟨rfl, storesTwo_of rfl fun _ => ⟨rfl, rfl, rfl, rfl, rfl, rfl⟩⟩

/-! ## `SP` plus a displacement -/

/-- An instruction that changes registers and then writes the flags: the flags, every byte as the CPU reads it, and the
next state. -/
theorem writesRegsAndFlags_of {i : Instr} {s u : State} {z n h c : Bool} {k : Nat}
    (he : exec i s = done k (u.setFlags z n h c)) (hread : ReadsSame s u) :
    ∃ t, exec i s = .next t ∧ FlagsAre t z n h c ∧ ReadsSame s t ∧ t = { u with f := t.f, cycles := k } :=
  ⟨_, he, flagsAre_setFlags u z n h c k, fun x => (cpuRead_congr rfl rfl rfl rfl rfl rfl x).trans (hread x), rfl⟩

/-- Settles O11: both rows write the sum of R219 with its flags, to `HL` or to `SP`, which no read depends on. -/
theorem stackPointerPlusDisplacement : Obligations.StackPointerPlusDisplacement := by
  unfold Obligations.StackPointerPlusDisplacement
  intro s e r hf cf
  have hhl : ReadsSame s (s.setHl r) := fun x => cpuRead_congr rfl rfl rfl rfl rfl rfl x
  have hsp : ReadsSame s { s with sp := r } := fun x => cpuRead_congr rfl rfl rfl rfl rfl rfl x
  exact ⟨⟨rfl, writesRegsAndFlags_of rfl hhl⟩, ⟨rfl, writesRegsAndFlags_of rfl hsp⟩⟩

/-! ## The stack -/

theorem encode_push (p : R16Stk) : encode (Instr.push p) = [opcode (0xC5 + 16 * p.code)] := by
  cases p <;> rfl

theorem encode_pop (p : R16Stk) : encode (Instr.pop p) = [opcode (0xC1 + 16 * p.code)] := by
  cases p <;> rfl

/-- Settles O12: a push is two bus writes and then a write of `SP`, whatever the bus did. -/
theorem pushStoresPair : Obligations.PushStoresPair := by
  unfold Obligations.PushStoresPair
  intro s p
  have hexec : exec (Instr.push p) s =
      .next { cpuWrite (cpuWrite s (s.sp - 1) (highByte (s.r16stk p))) (s.sp - 2) (lowByte (s.r16stk p)) with
        sp := s.sp - 2, cycles := 16 } := by
    rw [exec_push, pushPair, push16_eq, done_eq]
  exact ⟨encode_push p, storesTwo_of hexec fun _ => ⟨rfl, rfl, rfl, rfl, rfl, rfl⟩⟩

/-- What a write of `AF` stores: the word without the low nibble of `F` (R28, R165). -/
theorem wordOf_high_low_and_F0 (v : Word) : wordOf (highByte v) (lowByte v &&& 0xF0) = v &&& 0xFFF0 := by
  conv_rhs => rw [← wordOf_high_low v]
  unfold wordOf
  rw [show (0xFFF0 : Word) = (0xFF : Byte) ++ (0xF0 : Byte) from rfl, BitVec.and_append]
  congr 1
  exact (BitVec.and_allOnes).symm

/-! Neither the cycle count nor `SP` is part of a pair of R106. -/

theorem r16stk_with_cycles (s : State) (n : Nat) (q : R16Stk) : { s with cycles := n }.r16stk q = s.r16stk q := by
  cases q <;> rfl

theorem r16stk_popped (s : State) (q : R16Stk) : (popped s).r16stk q = s.r16stk q := by
  cases q <;> rfl

/-- Settles O13: a pop reads the word at `SP`, moves `SP`, and writes one pair, which no read depends on. -/
theorem popReadsPair : Obligations.PopReadsPair := by
  unfold Obligations.PopReadsPair
  intro s p v
  have hexec : exec (Instr.pop p) s = done 12 ((popped s).setR16stk p v) := exec_pop p s
  refine ⟨encode_pop p, _, hexec, ?pair, fun q hq => ?others, fun x => ?reads, ?state⟩
  case pair => rw [r16stk_with_cycles, State.r16stk_setR16stk, if_pos rfl, wordOf_high_low_and_F0]
  case others => rw [r16stk_with_cycles, State.r16stk_setR16stk, if_neg hq, r16stk_popped]
  case reads =>
    exact cpuRead_congr (State.setR16stk_mem _ p v) (State.setR16stk_ppu _ p v) (State.setR16stk_dma _ p v)
      (State.setR16stk_ie _ p v) (State.setR16stk_ifr _ p v) (State.setR16stk_cartRamPresent _ p v) x
  case state => cases p <;> rfl

end Sys2Proof.Machine
end

section
/-! 8-bit arithmetic and logic (42_alu8.md R176 to R211): each row's bytes, and its effect as one of the forms of the Safety
file, from the equation of its operation and the values of the result-and-flags functions. -/

namespace Sys2Proof.Machine

/-! ## Results and flags -/

/-- `Z` of a sum, on the exact sum (R176). -/
theorem add8_z (a b : Byte) (cin : Bool) :
    (add8 a b cin).z = decide ((a.toNat + b.toNat + cin.toNat) % 256 = 0) := by
  rw [Bool.eq_iff_iff]
  simp [add8, ← BitVec.toNat_inj]

/-- `Z` of a difference, as an equality of bytes that allows the subtrahend and the borrow to wrap (R177). -/
theorem sub8_z (a b : Byte) (cin : Bool) : (sub8 a b cin).z = decide (a = b + BitVec.ofNat 8 cin.toNat) := by
  have hzero : a - b - BitVec.ofNat 8 cin.toNat = 0 ↔ a = b + BitVec.ofNat 8 cin.toNat := by
    rw [sub_sub, sub_eq_zero]
  rw [sub8, Bool.eq_iff_iff, beq_iff_eq, ofInt_sub_sub, hzero, decide_eq_true_iff]

/-- The carry of a difference is a borrow: the exact difference is negative (R177). -/
theorem sub8_c (a b : Byte) (cin : Bool) : (sub8 a b cin).c = decide (a.toNat < b.toNat + cin.toNat) :=
  decide_eq_decide.mpr (by omega)

/-- The low nibble as a remainder. -/
theorem and_0F_beq (v : Byte) {k : Byte} : (v &&& 0x0F == k) = decide (v.toNat % 16 = k.toNat) := by
  have hnibble : (v &&& 0x0F).toNat = v.toNat % 16 := Nat.and_two_pow_sub_one_eq_mod v.toNat 4
  rw [Bool.eq_iff_iff, beq_iff_eq, decide_eq_true_iff, ← hnibble, BitVec.toNat_inj]

/-- The flags of `INC` as the old value has them (R204). -/
theorem incFlags_eq (v : Byte) (s : State) :
    incFlags v s = s.setFlags (decide (v = 0xFF)) false (decide (v.toNat % 16 = 15)) s.fC := by
  have hz : (v + 1 == 0) = decide (v = 0xFF) := by rw [Bool.eq_iff_iff, beq_iff_eq, decide_eq_true_iff]; bv_omega
  rw [incFlags, hz, and_0F_beq]
  rfl

/-- The flags of `DEC` as the old value has them (R206). -/
theorem decFlags_eq (v : Byte) (s : State) :
    decFlags v s = s.setFlags (decide (v = 0x01)) true (decide (v.toNat % 16 = 0)) s.fC := by
  have hz : (v - 1 == 0) = decide (v = 0x01) := by rw [Bool.eq_iff_iff, beq_iff_eq, decide_eq_true_iff, sub_eq_zero]
  rw [decFlags, hz, and_0F_beq]
  rfl

/-! ## The three operand forms -/

theorem AluSrc.encode_eq (op : AluOp) (x : AluSrc) : encode (x.instr op) = x.bytes op := by
  cases x with
  | reg r => cases op <;> cases r <;> rfl
  | mem | imm n => cases op <;> rfl

/-- An operation that writes `A` and the flags, in every form (R178). -/
theorem AluSrc.writesA_of {op : AluOp} {x : AluSrc} {s : State} {r : Byte} {z n h c : Bool}
    (ha : aluA op (x.value s) s = setA r z n h c s) : WritesR8Flags (x.instr op) s .a r z n h c x.cycles :=
  writesR8Flags_of ((AluSrc.exec_eq op x s).trans (by rw [ha]; rfl))

/-- Settles O15: both operations are one `Add8`, whose carry-in tells them apart. -/
theorem addAndAddWithCarry : Obligations.AddAndAddWithCarry := by
  unfold Obligations.AddAndAddWithCarry
  intro s x op cin hop
  refine ⟨x.encode_eq op, AluSrc.writesA_of ?_⟩
  rw [← add8_z]
  obtain ⟨rfl, rfl⟩ | ⟨rfl, rfl⟩ := hop <;> rfl

/-- Settles O16: both operations are one `Sub8`, whose borrow-in tells them apart. -/
theorem subAndSubWithCarry : Obligations.SubAndSubWithCarry := by
  unfold Obligations.SubAndSubWithCarry
  intro s x op cin hop
  refine ⟨x.encode_eq op, AluSrc.writesA_of ?_⟩
  rw [← sub8_z, ← sub8_c, ← ofInt_sub_sub]
  obtain ⟨rfl, rfl⟩ | ⟨rfl, rfl⟩ := hop <;> rfl

/-- Settles O17: a `Sub8` without a borrow-in, of which only the flags are kept. (The plain name would hide the library's
`compare`.) -/
theorem compare_obligation : Obligations.Compare := by
  unfold Obligations.Compare
  intro s x
  have hz : (sub8 s.a (x.value s) false).z = decide (s.a = x.value s) := by simp [sub8_z]
  have hc : (sub8 s.a (x.value s) false).c = decide (s.a.toNat < (x.value s).toNat) := sub8_c _ _ false
  refine ⟨x.encode_eq .cp, writesFlags_of ?_⟩
  rw [AluSrc.exec_eq, ← hz, ← hc]
  rfl

/-- Settles O18: each of the three operations writes `A` and fixed `N`, `H`, `C`. -/
theorem logic : Obligations.Logic := by
  unfold Obligations.Logic
  intro s x
  exact ⟨⟨x.encode_eq .and, AluSrc.writesA_of rfl⟩, ⟨x.encode_eq .xor, AluSrc.writesA_of rfl⟩,
    ⟨x.encode_eq .or, AluSrc.writesA_of rfl⟩⟩

/-! ## `INC` and `DEC` of a byte -/

theorem encode_incReg (r : R8) : encode (Instr.incReg r) = [opcode (0x04 + 8 * r.code)] := by
  cases r <;> rfl

theorem encode_decReg (r : R8) : encode (Instr.decReg r) = [opcode (0x05 + 8 * r.code)] := by
  cases r <;> rfl

@[simp] theorem State.fC_setR8 (s : State) (r : R8) (v : Byte) : (s.setR8 r v).fC = s.fC := by
  rw [State.fC, State.setR8_f, State.fC]

@[simp] theorem cpuWrite_fC (s : State) (a : Word) (v : Byte) : (cpuWrite s a v).fC = s.fC := by
  rw [State.fC, cpuWrite_f, State.fC]

theorem exec_incReg_setFlags (r : R8) (s : State) :
    exec (Instr.incReg r) s = done 4 ((s.setR8 r (s.r8 r + 1)).setFlags (decide (s.r8 r = 0xFF)) false
      (decide ((s.r8 r).toNat % 16 = 15)) s.fC) := by
  rw [exec_incReg, incR8, incFlags_eq, State.fC_setR8]

theorem exec_decReg_setFlags (r : R8) (s : State) :
    exec (Instr.decReg r) s = done 4 ((s.setR8 r (s.r8 r - 1)).setFlags (decide (s.r8 r = 0x01)) true
      (decide ((s.r8 r).toNat % 16 = 0)) s.fC) := by
  rw [exec_decReg, decR8, decFlags_eq, State.fC_setR8]

/-- An instruction that stores one byte and then writes the flags. -/
theorem storesByte_of_setFlags {i : Instr} {s : State} {a : Word} {v : Byte} {z n h c : Bool} {k : Nat}
    (he : exec i s = done k ((cpuWrite s a v).setFlags z n h c)) :
    StoresByte i s a v (fun u => { u with f := flagByte z n h c, cycles := k }) :=
  storesByte_of he fun _ => ⟨rfl, rfl, rfl, rfl, rfl, rfl⟩

theorem exec_incMHl_setFlags (s : State) :
    exec .incMHl s = done 12 ((cpuWrite s s.hl (s.memHl + 1)).setFlags (decide (s.memHl = 0xFF)) false
      (decide (s.memHl.toNat % 16 = 15)) s.fC) := by
  change incMemHl s = _
  rw [incMemHl, incFlags_eq, State.setMemHl, cpuWrite_fC]

theorem exec_decMHl_setFlags (s : State) :
    exec .decMHl s = done 12 ((cpuWrite s s.hl (s.memHl - 1)).setFlags (decide (s.memHl = 0x01)) true
      (decide (s.memHl.toNat % 16 = 0)) s.fC) := by
  change decMemHl s = _
  rw [decMemHl, decFlags_eq, State.setMemHl, cpuWrite_fC]

/-- The byte of the flag register as a sum of its bits (R27). -/
theorem flagByte_toNat (z n h c : Bool) :
    (flagByte z n h c).toNat = 128 * z.toNat + 64 * n.toNat + 32 * h.toNat + 16 * c.toNat := by
  revert z n h c; decide

/-- Settles O19: the flags depend on the old value only, and neither a register nor the bus touches the carry. -/
theorem incrementDecrementByte : Obligations.IncrementDecrementByte := by
  unfold Obligations.IncrementDecrementByte
  intro s r v
  exact ⟨⟨encode_incReg r, writesR8Flags_of (exec_incReg_setFlags r s)⟩,
    ⟨rfl, storesByte_of_setFlags (exec_incMHl_setFlags s)⟩,
    ⟨encode_decReg r, writesR8Flags_of (exec_decReg_setFlags r s)⟩,
    ⟨rfl, storesByte_of_setFlags (exec_decMHl_setFlags s)⟩,
    ⟨rfl, rfl, rfl, rfl⟩, flagByte_toNat⟩

/-! ## `DAA` -/

/-- The two parts of the correction have no bit in common, so R208's `or` of them is their sum. -/
theorem daaCorrection_eq (low upper : Bool) :
    (if upper then (if low then (0x06 : Byte) else 0x00) ||| 0x60 else if low then 0x06 else 0x00) =
      BitVec.ofNat 8 ((if low then 0x06 else 0) + if upper then 0x60 else 0) := by
  cases low <;> cases upper <;> rfl

/-- Settles O20: the correction as a sum, added or subtracted; its two tests see the old `A`. (The plain name
`decimalAdjust` is the model's operation.) -/
theorem decimalAdjust_obligation : Obligations.DecimalAdjust := by
  unfold Obligations.DecimalAdjust
  intro s low upper corr r
  have hlow : low = if s.fH || (!s.fN && decide (9 < s.a.toNat % 16)) then 0x06 else 0 := by simp [low]
  have hupper : upper = (s.fC || (!s.fN && decide (0x99 < s.a.toNat))) := by simp [upper]
  have hadjust : daaAdjust s.a s.fN s.fH s.fC = (r, upper) := by
    simp only [daaAdjust, daaCorrection_eq, ← hupper, ← hlow]
    rfl
  have hexec : exec .daa s = done 4 ((s.setR8 .a r).setFlags (decide (r = 0)) s.fN false upper) := by
    change done 4 (decimalAdjust s) = _
    rw [decimalAdjust, hadjust]
    rfl
  exact ⟨rfl, writesR8Flags_of hexec⟩

/-! ## `CPL`, `SCF`, `CCF` -/

/-- Settles O21: `CPL` flips every bit of `A`; `SCF` and `CCF` write the flags only. -/
theorem complementAndCarryFlag : Obligations.ComplementAndCarryFlag := by
  unfold Obligations.ComplementAndCarryFlag
  intro s
  have hcpl : s.a ^^^ 0xFF = ~~~s.a := BitVec.xor_allOnes
  refine ⟨⟨rfl, ?cpl⟩, ⟨rfl, writesFlags_of rfl⟩, ⟨rfl, writesFlags_of rfl⟩⟩
  case cpl =>
    rw [← hcpl]
    exact writesR8Flags_of rfl

end Sys2Proof.Machine
end

section
/-! 16-bit arithmetic (43_alu16.md R215 to R217): each row's bytes, and its effect as one of the forms of the Safety file,
from the equation of its operation. -/

namespace Sys2Proof.Machine

/-! ## `ADD HL,rr` -/

theorem encode_addHl (p : R16) : encode (Instr.addHl p) = [opcode (0x09 + 16 * p.code)] := by
  cases p <;> rfl

/-- Neither the flags nor the cycle count written after `HL` reach it. -/
theorem hl_setHl_setFlags (s : State) (v : Word) (z n h c : Bool) (k : Nat) :
    { (s.setHl v).setFlags z n h c with cycles := k }.hl = v :=
  State.hl_setHl s v

/-- The sum of two words wraps at 16 bits (R215). -/
theorem add16_r_toNat (a b : Word) : (add16 a b).r.toNat = (a.toNat + b.toNat) % 65536 :=
  BitVec.toNat_ofNat (a.toNat + b.toNat) 16

/-! ## `INC rr` and `DEC rr` -/

theorem encode_incPair (p : R16) : encode (Instr.incPair p) = [opcode (0x03 + 16 * p.code)] := by
  cases p <;> rfl

theorem encode_decPair (p : R16) : encode (Instr.decPair p) = [opcode (0x0B + 16 * p.code)] := by
  cases p <;> rfl

/-- A sum of numbers, taken as a word, is the sum of words: it wraps at 16 bits. -/
theorem ofNat_toNat_add (w : Word) (n : Nat) : BitVec.ofNat 16 (w.toNat + n) = w + BitVec.ofNat 16 n := by
  rw [BitVec.ofNat_add, BitVec.ofNat_toNat, BitVec.setWidth_eq]

/-- A step down is a step up by `0xFFFF`, the word that is minus one (R217). -/
theorem ofNat_toNat_add_FFFF (w : Word) : BitVec.ofNat 16 (w.toNat + 0xFFFF) = w - 1 := by
  have hneg : BitVec.ofNat 16 0xFFFF = -(1 : Word) := rfl
  rw [ofNat_toNat_add, hneg, ← sub_eq_add_neg]

/-- Settles O22: `ADD HL,rr` writes `HL` and the flags of the old sum; `INC rr` and `DEC rr` are writes of one pair. -/
theorem pairArithmetic : Obligations.PairArithmetic := by
  unfold Obligations.PairArithmetic
  intro s p a b
  refine ⟨⟨encode_addHl p, _, exec_addHl p s, ?sum, flagsAre_setFlags _ _ _ _ _ _, fun x => ?reads, rfl⟩,
    ⟨encode_incPair p, writesR16_of ?inc⟩, ⟨encode_decPair p, writesR16_of ?dec⟩⟩
  case sum => rw [hl_setHl_setFlags, add16_r_toNat]
  case reads => exact cpuRead_congr rfl rfl rfl rfl rfl rfl x
  case inc => rw [exec_incPair, incR16, ofNat_toNat_add]; rfl
  case dec => rw [exec_decPair, decR16, ofNat_toNat_add_FFFF]

end Sys2Proof.Machine
end

section
/-! Rotates, shifts and bits (44_rotate_shift_bit.md R220 to R238): each row's bytes, and its effect as one of the forms of
the Safety file, from the equation of its operation and the value of the shift or of the bit written. -/

namespace Sys2Proof.Machine

/-! ## The accumulator rotates -/

/-- An instruction that rotates `A`: its result and the bit shifted out are those of the operation, and `Z` is 0. -/
theorem writesR8Flags_of_rotateA {i : Instr} {op : ShiftOp} {s : State} {r : Byte} {c : Bool}
    (he : exec i s = rotateA op s) (hr : (shift8 op s.a s.fC).1 = r) (hc : (shift8 op s.a s.fC).2 = c) :
    WritesR8Flags i s .a r false false false c 4 := by
  subst hr hc
  exact writesR8Flags_of he

/-- Settles O23: each row is the rotate of R224 to R227 on `A`, without its `Z`. -/
theorem rotateAccumulator : Obligations.RotateAccumulator := by
  unfold Obligations.RotateAccumulator
  intro s a cin
  have hvalue (op : ShiftOp) := shift8_value op s.a s.fC
  have hout (op : ShiftOp) := shift8_out op s.a s.fC
  exact ⟨⟨rfl, writesR8Flags_of_rotateA rfl (hvalue .rlc) (hout .rlc)⟩,
    ⟨rfl, writesR8Flags_of_rotateA rfl (hvalue .rrc) (hout .rrc)⟩,
    ⟨rfl, writesR8Flags_of_rotateA rfl (hvalue .rl) (hout .rl)⟩,
    ⟨rfl, writesR8Flags_of_rotateA rfl (hvalue .rr) (hout .rr)⟩⟩

/-! ## The prefixed rotates and shifts -/

theorem encode_shiftReg (op : ShiftOp) (r : R8) :
    encode (Instr.shiftReg op r) = [0xCB, opcode (8 * op.code + r.code)] := by
  cases op <;> cases r <;> rfl

theorem encode_shiftMem (op : ShiftOp) : encode (Instr.shiftMem op) = [0xCB, opcode (8 * op.code + 6)] := by
  cases op <;> rfl

/-- Settles O24: the eight operations are one row of a register and one of `(HL)`, at the value and the bit that `shift8`
gives. -/
theorem rotatesAndShifts : Obligations.RotatesAndShifts := by
  unfold Obligations.RotatesAndShifts
  intro s r op cin res out x m
  have hvalue (v : Byte) : res v = (shift8 op v s.fC).1 := (shift8_value op v s.fC).symm
  have hout (v : Byte) : out v = (shift8 op v s.fC).2 := (shift8_out op v s.fC).symm
  rw [hvalue x, hout x, hvalue m, hout m]
  exact ⟨⟨encode_shiftReg op r, writesR8Flags_of (exec_shiftReg op r s)⟩,
    ⟨encode_shiftMem op, storesByte_of_setFlags (exec_shiftMem op s)⟩⟩

/-! ## One bit of a byte -/

/-- The byte whose only bit is `b`, as a power of two. -/
theorem one_shiftLeft_eq (b : Nat) : 1#8 <<< b = BitVec.ofNat 8 (2 ^ b) := by
  rw [← BitVec.twoPow_eq]
  exact BitVec.eq_of_toNat_eq (BitVec.toNat_twoPow 8 b)

/-- Clearing a bit keeps the bits of `0xFF` without it (R234). -/
theorem clearBit_eq (b : Nat) (v : Byte) : clearBit b v = v &&& (0xFF - BitVec.ofNat 8 (2 ^ b)) := by
  rw [clearBit, one_shiftLeft_eq, ← BitVec.allOnes_sub_eq_not]
  rfl

theorem raiseBit_eq (b : Nat) (v : Byte) : raiseBit b v = v ||| BitVec.ofNat 8 (2 ^ b) := by
  rw [raiseBit, one_shiftLeft_eq]

/-! ## `BIT`, `RES` and `SET` -/

theorem encode_bitReg (b : Oct) (r : R8) :
    encode (Instr.bitReg b r) = [0xCB, opcode (0x40 + 8 * b.toNat + r.code)] := by
  cases b <;> cases r <;> rfl

theorem encode_bitMem (b : Oct) : encode (Instr.bitMem b) = [0xCB, opcode (0x46 + 8 * b.toNat)] := by
  cases b <;> rfl

theorem encode_resReg (b : Oct) (r : R8) :
    encode (Instr.resReg b r) = [0xCB, opcode (0x80 + 8 * b.toNat + r.code)] := by
  cases b <;> cases r <;> rfl

theorem encode_resMem (b : Oct) : encode (Instr.resMem b) = [0xCB, opcode (0x86 + 8 * b.toNat)] := by
  cases b <;> rfl

theorem encode_setReg (b : Oct) (r : R8) :
    encode (Instr.setReg b r) = [0xCB, opcode (0xC0 + 8 * b.toNat + r.code)] := by
  cases b <;> cases r <;> rfl

theorem encode_setMem (b : Oct) : encode (Instr.setMem b) = [0xCB, opcode (0xC6 + 8 * b.toNat)] := by
  cases b <;> rfl

/-- Settles O25: `BIT` writes the flags only; `RES` and `SET` write the byte with one bit cleared or raised, and no flag. -/
theorem testResetAndSetBit : Obligations.TestResetAndSetBit := by
  unfold Obligations.TestResetAndSetBit
  intro s b r bit m
  rw [← clearBit_eq b.toNat (s.r8 r), ← clearBit_eq b.toNat m, ← raiseBit_eq b.toNat (s.r8 r),
    ← raiseBit_eq b.toNat m]
  exact ⟨⟨encode_bitReg b r, writesFlags_of (exec_bitReg b r s)⟩,
    ⟨encode_bitMem b, writesFlags_of (exec_bitMem b s)⟩,
    ⟨encode_resReg b r, writesR8_of (exec_resReg b r s)⟩,
    ⟨encode_resMem b, storesByte_of_done (exec_resMem b s)⟩,
    ⟨encode_setReg b r, writesR8_of (exec_setReg b r s)⟩,
    ⟨encode_setMem b, storesByte_of_done (exec_setMem b s)⟩⟩

end Sys2Proof.Machine
end

section
/-! Calls, restarts and returns (45_control_transfer.md R255 to R260): each row's bytes, and its effect as a move of `PC`
with a push or a pop, from the equation of its operation; a conditional row is one of two such moves. -/

namespace Sys2Proof.Machine

/-! ## Calls and restarts -/

theorem encode_callIf (cc : Cond) (nn : Word) :
    encode (Instr.callIf cc nn) = [opcode (0xC4 + 8 * cc.code), lowByte nn, highByte nn] := by
  cases cc <;> rfl

theorem encode_rst (t : Oct) : encode (Instr.rst t) = [opcode (0xC7 + 8 * t.toNat)] := by
  cases t <;> rfl

theorem callsTo_callIf_taken {s : State} {cc : Cond} (h : s.cond cc = true) (nn : Word) :
    CallsTo (Instr.callIf cc nn) s nn 24 := callsTo_of (by rw [exec_callIf, callIf, if_pos h])

theorem jumpsTo_callIf_not_taken {s : State} {cc : Cond} (h : s.cond cc = false) (nn : Word) :
    JumpsTo (Instr.callIf cc nn) s s.pc 12 := jumpsTo_of (by rw [exec_callIf, callIf, h]; rfl)

/-- Settles O27: `CALL` and `RST` are a push of `PC` and a move of it; a condition that fails moves `PC` to where it
stands. -/
theorem callsAndRestarts : Obligations.CallsAndRestarts := by
  unfold Obligations.CallsAndRestarts
  intro s cc nn t taken
  have hcond : s.cond cc = taken := by cases cc <;> rfl
  exact ⟨⟨rfl, callsTo_of rfl⟩,
    ⟨encode_callIf cc nn, fun h => callsTo_callIf_taken (hcond.trans h) nn,
      fun h => jumpsTo_callIf_not_taken (hcond.trans h) nn⟩,
    ⟨encode_rst t, callsTo_of (exec_rst t s)⟩⟩

/-! ## Returns -/

theorem encode_retIf (cc : Cond) : encode (Instr.retIf cc) = [opcode (0xC0 + 8 * cc.code)] := by
  cases cc <;> rfl

/-- A return moves `PC` to the word at `SP` and `SP` past it, which no read depends on (R167). -/
theorem readsSame_returnFrom (s : State) : ReadsSame s (returnFrom s) :=
  fun x => cpuRead_congr rfl rfl rfl rfl rfl rfl x

/-- An instruction that returns and does nothing else. -/
theorem returns_of {i : Instr} {s : State} {n : Nat} (h : exec i s = done n (returnFrom s)) :
    ∃ t, exec i s = .next t ∧ ReadsSame s t ∧
      t = { s with pc := wordOf (cpuRead s (s.sp + 1)) (cpuRead s s.sp), sp := s.sp + 2, cycles := n } :=
  ⟨_, h, readsSame_returnFrom s, rfl⟩

theorem exec_retIf_taken {s : State} {cc : Cond} (h : s.cond cc = true) :
    exec (Instr.retIf cc) s = done 20 (returnFrom s) := by rw [exec_retIf, returnIf, if_pos h]

theorem jumpsTo_retIf_not_taken {s : State} {cc : Cond} (h : s.cond cc = false) :
    JumpsTo (Instr.retIf cc) s s.pc 8 := jumpsTo_of (by rw [exec_retIf, returnIf, h]; rfl)

/-- Settles O28: `RET`, and `RET cc` where its condition holds, are a return alone; `RETI` is a return that also writes the
interrupt enable and its delay, which no read depends on. -/
theorem returns : Obligations.Returns := by
  unfold Obligations.Returns
  intro s cc taken v
  have hcond : s.cond cc = taken := by cases cc <;> rfl
  exact ⟨⟨rfl, returns_of rfl⟩,
    ⟨encode_retIf cc, fun h => returns_of (exec_retIf_taken (hcond.trans h)),
      fun h => jumpsTo_retIf_not_taken (hcond.trans h)⟩,
    ⟨rfl, _, rfl, readsSame_returnFrom s, rfl⟩⟩

end Sys2Proof.Machine
end

section
/-! System instructions and what they leave to the boundary (46_system.md R270 to R277; 60_exceptions.md R400, R410): `NOP`,
`DI`, `EI`, `HALT` and `STOP` as writes of the interrupt state and the run state, the boundary actions as one update, and
the bytes that select no instruction. -/

namespace Sys2Proof.Machine

/-! ## Instructions that write the interrupt state and the run state -/

/-- An instruction that writes `IME`, its delay, the run state and the wait quirk only, on none of which a read depends. -/
theorem writesControl_of {i : Instr} {s : State} {ime quirk : Bool} {delay n : Nat} {run : RunState}
    (h : exec i s = done n { s with ime := ime, imeDelay := delay, runState := run, haltBug := quirk }) :
    ∃ t, exec i s = .next t ∧ ReadsSame s t ∧
      t = { s with ime := ime, imeDelay := delay, runState := run, haltBug := quirk, cycles := n } :=
  ⟨_, h, fun x => cpuRead_congr rfl rfl rfl rfl rfl rfl x, rfl⟩

/-- `EI` as one update of the delay: where interrupts are on or a delay runs, it keeps its count (R275). -/
theorem exec_ei_eq (s : State) :
    exec .ei s = done 4 { s with imeDelay := if s.ime = false ∧ s.imeDelay = 0 then 2 else s.imeDelay } := by
  show execEi s = _
  unfold execEi
  split <;> rfl

/-- Settles O29: `NOP` writes nothing, `DI` clears `IME` and the delay, and `EI` is an update of the delay. -/
theorem nopAndInterruptEnable : Obligations.NopAndInterruptEnable := by
  unfold Obligations.NopAndInterruptEnable
  intro s
  exact ⟨⟨rfl, writesControl_of rfl⟩, ⟨rfl, writesControl_of rfl⟩, ⟨rfl, writesControl_of (exec_ei_eq s)⟩⟩

/-! ## The wait -/

/-- The spec's byte `IE & IF & 0x1F` is 0 when nothing is pending and only then (R404). -/
theorem pendingByte_eq_zero_iff (s : State) : s.ie &&& s.ifr.setWidth 8 &&& 0x1F = 0 ↔ s.pending = 0 := by
  refine ⟨pending_eq_zero, fun h => ?_⟩
  have h5 : s.ie.setWidth 5 &&& s.ifr = 0 := h
  rw [pending_byte, h5]
  rfl

/-- `HALT` sets the wait quirk when interrupts are off and one is pending (R272, R273). -/
theorem exec_halt_quirk {s : State} (h : s.ime = false ∧ s.pending ≠ 0) :
    exec .halt s = done 4 { s with haltBug := true } := congrArg (done 4) (if_pos h)

/-- `HALT` waits otherwise (R272). -/
theorem exec_halt_wait {s : State} (h : ¬ (s.ime = false ∧ s.pending ≠ 0)) :
    exec .halt s = done 4 { s with runState := .halted } := congrArg (done 4) (if_neg h)

/-- Settles O30: the two cases of `HALT` are those of its wait, with `pending` in the spec's eight bits; `STOP` ignores its
second byte. -/
theorem haltAndStop : Obligations.HaltAndStop := by
  unfold Obligations.HaltAndStop
  intro s n pending
  have hpending : pending ≠ 0 ↔ s.pending ≠ 0 := (pendingByte_eq_zero_iff s).not
  rw [hpending]
  exact ⟨⟨rfl, fun h => writesControl_of (exec_halt_quirk h), fun h => writesControl_of (exec_halt_wait h)⟩,
    ⟨rfl, writesControl_of rfl⟩⟩

/-! ## The boundary actions -/

/-- `Halted` ends when the spec's byte `IE & IF & 0x1F` is not 0 (R272, R410). -/
theorem wake_of_halted {s : State} (h : s.runState = .halted) :
    wake s = { s with
      runState := if s.ie &&& s.ifr.setWidth 8 &&& 0x1F ≠ 0 then .running else .halted } := by
  simp only [wake, h, ne_eq, pendingByte_eq_zero_iff]
  split
  · rfl
  · rw [← h]

/-- `Stopped` ends when the joypad request is set (R276, R410). -/
theorem wake_of_stopped {s : State} (h : s.runState = .stopped) :
    wake s = { s with runState := if s.ifr.getLsbD 4 then .running else .stopped } := by
  simp only [wake, h]
  split
  · rfl
  · rw [← h]

/-- Settles O33: the countdown does not touch what the wake-up tests, and the wake-up acts on the two waits alone. -/
theorem boundaryActions : Obligations.BoundaryActions := by
  unfold Obligations.BoundaryActions
  intro s pending
  rw [boundary, countdown_eq]
  cases s.runState with
  | halted => exact wake_of_halted rfl
  | stopped => exact wake_of_stopped rfl
  | running => rfl
  | faulted op addr => rfl

/-! ## The bytes that select no instruction -/

/-- A row of the table that selects no instruction stops with its own byte (R115, R277). -/
theorem stops_of_unassigned {i : Instr} {op : Byte} (h : i.unassigned = true) (he : encode i = [op]) (s : State) :
    encode i = [op] ∧ op ∈ unassignedBytes ∧ i.wf = false ∧
      exec i s = .fault (.illegalOpcode op s.pc { s with runState := .faulted op s.pc }) := by
  obtain ⟨b, hb, heb, hexec⟩ := exec_unassigned h
  obtain rfl : b = op := List.singleton_inj.mp (heb.symm.trans he)
  exact ⟨he, hb, by rw [Instr.wf, h]; rfl, hexec s⟩

/-- Each byte of R115 decodes to its own row, whatever follows it. -/
theorem decodeBytes_unassigned {b0 : Byte} (h : b0 ∈ unassignedBytes) (n1 n2 : Byte) :
    (decodeBytes b0 n1 n2).unassigned = true := by
  simp only [unassignedBytes, List.mem_cons, List.not_mem_nil, or_false] at h
  obtain rfl | rfl | rfl | rfl | rfl | rfl | rfl | rfl | rfl | rfl | rfl := h <;> rfl

/-- The bytes of R115, and no other, decode to a row that selects no instruction. -/
theorem wf_decodeBytes_eq_false_iff (b0 n1 n2 : Byte) :
    (decodeBytes b0 n1 n2).wf = false ↔ b0 ∈ unassignedBytes := by
  rw [Instr.wf, Bool.not_eq_false']
  exact ⟨fun h => (exec_decodeBytes_unassigned h).1, fun h => decodeBytes_unassigned h n1 n2⟩

/-- A fetched byte of R115 raises its fault from the state of the fetch, with `PC` not moved (R103, R277). -/
theorem step_of_run_illegal {s t : State} (h : beginStep s = .run t) (hop : cpuRead t t.pc ∈ unassignedBytes) :
    step s = illegalOpcode (cpuRead t t.pc) t := by
  have hun : (fetchInstr t).unassigned = true := decodeBytes_unassigned hop _ _
  have hfetched : fetched t = t := if_pos hun
  have hexec : exec (fetchInstr t) t = illegalOpcode (cpuRead t t.pc) t := (exec_decodeBytes_unassigned hun).2 t
  simp only [step, h, hfetched, hexec]
  rfl

/-- A faulted machine does nothing but report (R400, R410). -/
theorem beginStep_of_faulted {s : State} {op : Byte} {addr : Word} (h : s.runState = .faulted op addr) :
    beginStep s = .terminal op addr := by
  simp only [beginStep, h]

/-- Settles O37: the eleven rows and the eleven bytes are each other's; fetching one faults where the boundary actions left
the machine, and what a step of a faulted machine reports is in its run state. -/
theorem illegalOpcodeIsTerminal : Obligations.IllegalOpcodeIsTerminal := by
  unfold Obligations.IllegalOpcodeIsTerminal
  refine ⟨fun s => ?rows, wf_decodeBytes_eq_false_iff, fun s op hrun hint hread hop => ?fetch,
    fun s op addr h => step_of_terminal (beginStep_of_faulted h)⟩
  case rows =>
    intro stops
    refine ⟨?_, ?_, ?_, ?_, ?_, ?_, ?_, ?_, ?_, ?_, ?_⟩
    all_goals exact stops_of_unassigned rfl rfl s
  case fetch =>
    have hpc : (boundary s).pc = s.pc := (boundary_fetch s).1
    rw [← hpc] at hread ⊢
    subst hread
    exact step_of_run_illegal (beginStep_of_running hrun hint) hop

end Sys2Proof.Machine
end

section
/-! The scanline and mode controller (47_ppu_mode_controller.md R310 to R317): the place in the frame as a count of dots, the
split law of a tick, the requests of a dot, and the one dot of a line that renders. -/

namespace Sys2Proof.Machine

/-! ## The place in the frame -/

/-- `ModeOf` with the phase lengths as numbers (R312). -/
theorem modeOf_eq (ly dot : Nat) :
    modeOf ly dot =
      if 144 ≤ ly then .vblank
      else if dot < 80 then .oamSearch
      else if dot < 252 then .pixelTransfer
      else .hblank := rfl

/-- A dot is one more in the count of the frame's 154 * 456 dots (R311). -/
theorem ppuDot_place {p : Ppu} (h : p.Inv) (hon : p.lcdOn = true) (mem : Memory) :
    456 * (ppuDot p mem).1.ly + (ppuDot p mem).1.dot = (456 * p.ly + p.dot + 1) % (456 * 154) := by
  obtain ⟨hd, hl, -, -⟩ := h
  obtain ⟨cd, cl, -⟩ := ppuDot_counters hon mem
  rw [cd, cl]
  simp only [Config.dotsPerLine, Config.linesPerFrame] at hd hl
  obtain ⟨h1, h2, hd', hl', -⟩ | ⟨h1, h2, hd', hl', -⟩ | ⟨h1, hd', hl', -⟩ := Ppu.advance_cases hd hl <;>
    rw [hd', hl'] <;> omega

theorem ppuTick_lcdOn (n : Nat) (p : Ppu) (mem : Memory) : (ppuTick n p mem).1.lcdOn = p.lcdOn := by
  induction n generalizing p with
  | zero => rfl
  | succ n ih => exact (ih (ppuDot p mem).1).trans (ppuDot_lcdOn p mem)

/-- `n` dots are `n` more in the count of the frame's dots (R313). -/
theorem ppuTick_place {p : Ppu} (h : p.Inv) (hon : p.lcdOn = true) (mem : Memory) (n : Nat) :
    456 * (ppuTick n p mem).1.ly + (ppuTick n p mem).1.dot = (456 * p.ly + p.dot + n) % (456 * 154) := by
  induction n generalizing p with
  | zero =>
    obtain ⟨hd, hl, -, -⟩ := h
    simp only [Config.dotsPerLine, Config.linesPerFrame] at hd hl
    exact (Nat.mod_eq_of_lt (by omega : 456 * p.ly + p.dot < 456 * 154)).symm
  | succ n ih =>
    have hrest := ih (ppuDot_inv h mem) ((ppuDot_lcdOn p mem).trans hon)
    rw [ppuDot_place h hon] at hrest
    rw [ppuTick, hrest]
    omega

/-- Settles O43: the count of dots determines the line and the dot, and the invariant gives the mode at every place. -/
theorem modeIsFunctionOfDots : Obligations.ModeIsFunctionOfDots := by
  unfold Obligations.ModeIsFunctionOfDots
  intro p mem n h hon
  dsimp only
  have hplace := ppuTick_place h hon mem n
  obtain ⟨hd, -, hmode, -⟩ := ppuTick_inv h n mem
  obtain ⟨hm, -⟩ := hmode ((ppuTick_lcdOn n p mem).trans hon)
  simp only [Config.dotsPerLine] at hd
  exact ⟨by omega, by omega, hm.trans (modeOf_eq _ _)⟩

/-! ## The split law of a tick -/

/-- A tick of `m + n` dots is a tick of `m` and then one of `n`, with the OR of their masks (R310). -/
theorem ppuTick_add (m n : Nat) (p : Ppu) (mem : Memory) :
    ppuTick (m + n) p mem =
      ((ppuTick n (ppuTick m p mem).1 mem).1, (ppuTick m p mem).2 ||| (ppuTick n (ppuTick m p mem).1 mem).2) := by
  induction m generalizing p with
  | zero => simp [ppuTick]
  | succ m ih =>
    rw [Nat.succ_add]
    simp only [ppuTick, ih, BitVec.or_assoc]

/-- A stopped PPU stands still for any number of dots (R317). -/
theorem ppuTick_off {p : Ppu} (h : p.lcdOn = false) (n : Nat) (mem : Memory) : ppuTick n p mem = (p, 0) := by
  induction n with
  | zero => rfl
  | succ n ih => simp [ppuTick, ppuDot_off h, ih]

/-- A dot of a running PPU, with its STAT condition and its mask in terms of the PPU it gives (R311). -/
theorem ppuDot_requests {p : Ppu} (h : p.lcdOn = true) (mem : Memory) :
    (ppuDot p mem).1.statLine = (ppuDot p mem).1.statCondition ∧
      (ppuDot p mem).2 =
        vblankRequest p (ppuDot p mem).1 |||
          (if (ppuDot p mem).1.statCondition && !p.statLine then 0x02 else 0x00) := by
  have hline : (p.advance.enterMode mem).statLine = p.statLine := by
    unfold Ppu.enterMode Ppu.advance renderScanline
    dsimp only
    repeat' split
    all_goals rfl
  unfold ppuDot
  rw [if_pos h]
  refine ⟨rfl, ?_⟩
  rw [← hline]
  rfl

/-- A dot raises no request but those of bits 0 and 1 (R311). -/
theorem ppuDot_mask_high (p : Ppu) (mem : Memory) : (ppuDot p mem).2 &&& 0xFC = 0 := by
  cases hon : p.lcdOn with
  | false => rw [ppuDot_off hon]; exact BitVec.zero_and
  | true =>
    rw [(ppuDot_requests hon mem).2, vblankRequest]
    split <;> split <;> decide

/-- A tick raises no request but those of bits 0 and 1 (R310). -/
theorem ppuTick_mask_high (n : Nat) (p : Ppu) (mem : Memory) : (ppuTick n p mem).2 &&& 0xFC = 0 := by
  induction n generalizing p with
  | zero => exact BitVec.zero_and
  | succ n ih => rw [ppuTick, BitVec.and_or_distrib_right, ppuDot_mask_high, ih]; exact BitVec.or_self

/-- Settles O44: the split law by the dots of the first part; the masks and the standstill by the dots of the tick. -/
theorem tickSplitsAndStops : Obligations.TickSplitsAndStops := by
  unfold Obligations.TickSplitsAndStops
  intro p mem m n
  refine ⟨?_, ?_, rfl, ?_, ppuTick_mask_high n p mem, fun hoff => ⟨ppuTick_off hoff n mem, ?_, ?_⟩⟩
  · rw [ppuTick_add]
  · rw [ppuTick_add]
  · simp [ppuTick]
  · simp [Ppu.vramLocked, hoff]
  · simp [Ppu.oamLocked, hoff]

/-! ## The requests of a dot -/

/-- `StatCondition` in the spec's words (R315). -/
theorem Ppu.statCondition_eq (q : Ppu) :
    q.statCondition =
      decide ((q.statEn.getLsbD 0 = true ∧ q.mode = .hblank) ∨ (q.statEn.getLsbD 1 = true ∧ q.mode = .vblank) ∨
        (q.statEn.getLsbD 2 = true ∧ q.mode = .oamSearch) ∨ (q.statEn.getLsbD 3 = true ∧ q.ly = q.lyc.toNat)) := by
  rw [Bool.eq_iff_iff]
  simp [Ppu.statCondition, Ppu.lycEq, or_assoc]

/-- The mode changes to vertical blank on the first dot of line 144, and on no other (R314). -/
theorem ppuDot_entersVblank_iff {p : Ppu} (h : p.Inv) (hon : p.lcdOn = true) (mem : Memory) :
    ((ppuDot p mem).1.mode = .vblank ∧ p.mode ≠ .vblank) ↔
      (ppuDot p mem).1.ly = 144 ∧ (ppuDot p mem).1.dot = 0 := by
  obtain ⟨hd, hl, hmode, -⟩ := h
  obtain ⟨hm, -⟩ := hmode hon
  obtain ⟨cd, cl, cm⟩ := ppuDot_counters hon mem
  have hvblank (ly dot : Nat) : modeOf ly dot = .vblank ↔ 144 ≤ ly := by
    obtain ⟨e, hb⟩ | ⟨e, hb, -⟩ | ⟨e, hb, -⟩ | ⟨e, hb, -⟩ := modeOf_cases ly dot <;> simp [e] <;> omega
  rw [cm, hm, cd, cl, Ne, hvblank, hvblank]
  have hadv := Ppu.advance_cases hd hl
  omega

/-- The two bits of a mask of two requests (R310). -/
theorem requestMask_bits (vblank stat : Prop) [Decidable vblank] [Decidable stat] :
    ((if vblank then 0x01#8 else 0x00#8) ||| (if stat then 0x02#8 else 0x00#8)).getLsbD 0 = decide vblank ∧
      ((if vblank then 0x01#8 else 0x00#8) ||| (if stat then 0x02#8 else 0x00#8)).getLsbD 1 = decide stat := by
  by_cases hv : vblank <;> by_cases hs : stat <;> simp [hv, hs]

/-- Settles O45: the two bits of the mask are the two requests, each in terms of the PPU after the dot. -/
theorem ppuRequests : Obligations.PpuRequests := by
  unfold Obligations.PpuRequests
  intro p mem h hon
  dsimp only
  obtain ⟨hline, hmask⟩ := ppuDot_requests hon mem
  rw [← Ppu.statCondition_eq, hmask, vblankRequest]
  simp only [ppuDot_entersVblank_iff h hon]
  obtain ⟨hvblank, hstat⟩ := requestMask_bits ((ppuDot p mem).1.ly = 144 ∧ (ppuDot p mem).1.dot = 0)
    (((ppuDot p mem).1.statCondition && !p.statLine) = true)
  exact ⟨hvblank, hline, hstat.trans Bool.decide_eq_true⟩

/-! ## The dot that renders -/

/-- Some column of a line comes from the window: with `WX` past 166 none does (R355, R356). -/
theorem usesWindow_iff (p : Ppu) (ly : Nat) :
    usesWindow p ly = true ↔
      p.lcdc.getLsbD 0 = true ∧ p.lcdc.getLsbD 5 = true ∧ p.wy.toNat ≤ ly ∧ p.wx.toNat ≤ 166 := by
  have hcolumn : (∃ x, x < 160 ∧ windowCovers p ly x = true) ↔
      p.lcdc.getLsbD 5 = true ∧ p.wy.toNat ≤ ly ∧ p.wx.toNat ≤ 166 := by
    simp only [windowCovers, Bool.and_eq_true, decide_eq_true_eq, and_assoc]
    exact ⟨fun ⟨x, hx, h5, hy, hw⟩ => ⟨h5, hy, by omega⟩, fun ⟨h5, hy, hw⟩ => ⟨159, by omega, h5, hy, by omega⟩⟩
  rw [← hcolumn]
  simp [usesWindow, Config.rowPixels]

/-- Within a line only the dot moves (R311). -/
theorem Ppu.advance_of_line {p : Ppu} (h : p.dot < 455) : p.advance = { p with dot := p.dot + 1 } :=
  if_neg (show ¬ p.dot + 1 = 456 by omega)

/-- A dot enters pixel transfer exactly from dot 79 of a visible line (R312). -/
theorem entersPixelTransfer_iff {p : Ppu} (h : p.Inv) (hon : p.lcdOn = true) :
    (modeOf p.advance.ly p.advance.dot = .pixelTransfer ∧ p.mode ≠ .pixelTransfer) ↔ p.ly < 144 ∧ p.dot = 79 := by
  obtain ⟨hd, hl, hmode, -⟩ := h
  obtain ⟨hm, -⟩ := hmode hon
  have htransfer (ly dot : Nat) : modeOf ly dot = .pixelTransfer ↔ ly < 144 ∧ 80 ≤ dot ∧ dot < 252 := by
    obtain ⟨e, hb⟩ | ⟨e, hb, hb'⟩ | ⟨e, hb, hb', hb''⟩ | ⟨e, hb, hb'⟩ := modeOf_cases ly dot <;> simp [e] <;> omega
  rw [hm, Ne, htransfer, htransfer]
  have hadv := Ppu.advance_cases hd hl
  omega

/-- Settles O46: the renderer runs on the entry to pixel transfer, with the registers and the window's line as they
were. -/
theorem renderedOncePerVisibleLine : Obligations.RenderedOncePerVisibleLine := by
  unfold Obligations.RenderedOncePerVisibleLine
  intro p mem h hon
  dsimp only
  have hr := ppuDot_rendered hon mem
  simp only [entersPixelTransfer_iff h hon] at hr
  split at hr
  case isTrue h79 =>
    rw [if_pos h79]
    have hadv : p.advance = { p with dot := p.dot + 1 } := Ppu.advance_of_line (by omega)
    obtain ⟨hfb, hwin⟩ := hr
    rw [hadv] at hfb hwin
    simp only [← usesWindow_iff]
    exact ⟨hfb.trans (congrArg (p.fb.setIfInBounds p.ly) (renderRow_place p mem _ _ p.ly)), hwin⟩
  case isFalse h79 =>
    rw [if_neg h79]
    obtain ⟨hd, hl, -, -⟩ := h
    refine ⟨hr.1, hr.2.trans ?_⟩
    obtain ⟨h1, h2, -, -, hw⟩ | ⟨h1, h2, -, -, hw⟩ | ⟨h1, -, -, hw⟩ := Ppu.advance_cases hd hl
    · rw [hw, if_pos ⟨h2, h1⟩]
    · rw [hw, if_neg (by omega)]
    · rw [hw, if_neg (by omega)]

end Sys2Proof.Machine
end

section
/-! The DMA sequencer (49_dma_sequencer.md R382 to R393), from its trigger on: what a transfer reads, and what stands where
after any number of cycles; and the registers of the I/O page as they are written (R77 to R83, R301, R318). -/

namespace Sys2Proof.Machine

/-! ## The course of a transfer -/

/-- A write of `DMA` triggers a transfer, whatever stands in its way (R64, R382). -/
theorem cpuWrite_dma (s : State) (v : Byte) : cpuWrite s 0xFF46 v = dmaTrigger s v :=
  cpuWrite_io s v (by decide) (by decide)

/-- The sequencer `n` cycles after a trigger with `v`: a byte for every 4 cycles, and idle from the 640th on (R384, R387). -/
def Dma.afterTrigger (v : Byte) (n : Nat) : Dma :=
  if n < 640 then { active := true, src := v, offset := n / 4, sub := n % 4 }
  else { active := false, src := v, offset := 0, sub := 0 }

/-- What a cycle of an active transfer does to memory (R385). -/
theorem dmaCycle_mem (s : State) :
    (dmaCycle s).mem =
      if s.dma.sub = 3 then s.mem.write (0xFE00 + s.dma.offset) (nextDmaByte s) else s.mem := by
  by_cases h3 : s.dma.sub = 3
  · rw [if_pos h3]
    by_cases h159 : s.dma.offset = 159
    · rw [dmaCycle_last h3 h159]
    · rw [dmaCycle_copy h3 h159]
  · rw [if_neg h3, dmaCycle_wait h3]

/-- One cycle takes the sequencer from its place `n` cycles after the trigger to the next (R384, R387). -/
theorem dmaTick_one_afterTrigger {s : State} {v : Byte} {n : Nat} (h : s.dma = Dma.afterTrigger v n) :
    (dmaTick 1 s).dma = Dma.afterTrigger v (n + 1) := by
  by_cases hn : n < 640
  · rw [Dma.afterTrigger, if_pos hn] at h
    have hsub : s.dma.sub = n % 4 := by rw [h]
    have hoff : s.dma.offset = n / 4 := by rw [h]
    rw [dmaTick_one (by rw [h]), Dma.afterTrigger]
    by_cases h3 : n % 4 = 3
    · by_cases h159 : n / 4 = 159
      · rw [dmaCycle_last (hsub.trans h3) (hoff.trans h159), if_neg (by omega), h]
      · rw [dmaCycle_copy (hsub.trans h3) (by omega), if_pos (by omega), h,
          show (n + 1) / 4 = n / 4 + 1 by omega, show (n + 1) % 4 = 0 by omega]
    · rw [dmaCycle_wait (by omega), if_pos (by omega), h,
        show (n + 1) / 4 = n / 4 by omega, show (n + 1) % 4 = n % 4 + 1 by omega]
  · rw [Dma.afterTrigger, if_neg hn] at h
    rw [dmaTick_idle (by rw [h]), h, Dma.afterTrigger, if_neg (by omega)]

/-- The sequencer after a trigger (R384, R387). -/
theorem dmaTick_trigger_dma (s : State) (v : Byte) (n : Nat) :
    (dmaTick n (dmaTrigger s v)).dma = Dma.afterTrigger v n := by
  induction n with
  | zero => rfl
  | succ n ih => rw [dmaTick_add n 1]; exact dmaTick_one_afterTrigger ih

/-- A tick keeps memory in its canonical form. -/
theorem dmaTick_wf {s : State} (h : s.mem.wf) (n : Nat) : (dmaTick n s).mem.wf := by
  induction n generalizing s with
  | zero => exact h
  | succ n ih =>
    rw [dmaTick]
    split
    · refine ih ?_
      rw [dmaCycle_mem]
      split
      · exact Memory.write_wf h _ _
      · exact h
    · exact h

/-- The byte that the cycle after `n` cycles copies, if it copies one, is the source's as the trigger found it: the copies
before it went to OAM, which no page reads (R385, R386). -/
theorem nextDmaByte_of_trigger (s : State) (v : Byte) {n : Nat} (hn : n < 640) :
    nextDmaByte (dmaTick n (dmaTrigger s v)) = dmaRead s (256 * v.toNat + n / 4) := by
  have hv := v.isLt
  have hcart : (dmaTick n (dmaTrigger s v)).cartRamPresent = s.cartRamPresent := by rw [dmaTick_keeps]; rfl
  have hbelow : ∀ k, k < 0xFE00 → (dmaTick n (dmaTrigger s v)).mem.read k = s.mem.read k := fun k hk =>
    dmaTick_read_below n (dmaTrigger s v) hk
  rw [nextDmaByte, dmaTick_trigger_dma, Dma.afterTrigger, if_pos hn, Nat.mul_comm]
  exact dmaRead_congr hbelow hcart (by omega : 256 * v.toNat + n / 4 < 65536)

/-- OAM after a trigger: the bytes copied so far, then what it held (R385). -/
theorem dmaTick_trigger_oam {s : State} (h : s.mem.wf) (v : Byte) (n : Nat) {k : Nat} (hk : k < 160) :
    (dmaTick n (dmaTrigger s v)).mem.read (0xFE00 + k) =
      if k < n / 4 then dmaRead s (256 * v.toNat + k) else s.mem.read (0xFE00 + k) := by
  induction n with
  | zero => rfl
  | succ n ih =>
    have hdma := dmaTick_trigger_dma s v n
    rw [dmaTick_add n 1]
    by_cases hn : n < 640
    · have hbyte := nextDmaByte_of_trigger s v hn
      have hwf : (dmaTick n (dmaTrigger s v)).mem.wf := dmaTick_wf (s := dmaTrigger s v) h n
      rw [Dma.afterTrigger, if_pos hn] at hdma
      rw [dmaTick_one (by rw [hdma]), dmaCycle_mem, hbyte, hdma]
      dsimp only
      by_cases h3 : n % 4 = 3
      · rw [if_pos h3]
        by_cases hkn : k = n / 4
        · rw [hkn, Memory.read_write_same hwf, if_pos (by omega)]
        · rw [Memory.read_write_other (by omega), ih]
          simp only [show k < (n + 1) / 4 ↔ k < n / 4 by omega]
      · rw [if_neg h3, ih, show (n + 1) / 4 = n / 4 by omega]
    · rw [Dma.afterTrigger, if_neg hn] at hdma
      rw [dmaTick_idle (by rw [hdma]), ih, if_pos (by omega), if_pos (by omega)]

/-- Settles O52: the sequencer and OAM by the cycles since the trigger; no copy goes elsewhere. -/
theorem transferCopiesOnePage : Obligations.TransferCopiesOnePage := by
  unfold Obligations.TransferCopiesOnePage
  intro s v n hwf
  dsimp only
  rw [cpuWrite_dma]
  have hinv : (dmaTrigger s v).dma.Inv :=
    ⟨(by decide : 0 < Config.dmaBytes), (by decide : 0 < Config.machineCycle), nofun⟩
  exact ⟨dmaTick_trigger_dma s v n, fun k hk => dmaTick_trigger_oam hwf v n hk, fun k hk => dmaTick_outside n hinv hk⟩

/-! ## The source of a transfer -/

/-- Settles O53: an offset below 160 never leaves the page, so the page alone chooses the source. -/
theorem transferSource : Obligations.TransferSource := by
  unfold Obligations.TransferSource
  intro s v k hk
  have hv := v.isLt
  rw [dmaRead]
  by_cases hE0 : 0xE0 ≤ v.toNat
  · have hsource : 256 * v.toNat + k - 0x2000 = 256 * (v.toNat - 0x20) + k := by omega
    rw [if_pos (show 0xE000 ≤ 256 * v.toNat + k by omega), hsource, if_neg (by omega), if_neg (by omega), if_pos hE0]
  · have hfirst : 0xA000 ≤ 256 * v.toNat + k ↔ 0xA0 ≤ v.toNat := by omega
    have hpast : 256 * v.toNat + k < 0xC000 ↔ v.toNat < 0xC0 := by omega
    rw [if_neg (show ¬ 0xE000 ≤ 256 * v.toNat + k by omega), if_neg hE0]
    simp only [hfirst, hpast, Config.absentRamRead]

/-! ## The registers as they are written -/

/-- A write of `LCDC` by the two directions in which bit 7 can go (R318). -/
theorem Ppu.writeLcdc_eq (p : Ppu) (v : Byte) :
    p.writeLcdc v =
      if p.lcdc.getLsbD 7 = true ∧ v.getLsbD 7 = false then
        { p with lcdc := v, ly := 0, dot := 0, mode := .hblank, statLine := false, winLine := 0 }
      else if p.lcdc.getLsbD 7 = false ∧ v.getLsbD 7 = true then
        { p with lcdc := v, ly := 0, dot := 0, mode := .oamSearch, statLine := false, winLine := 0 }
      else { p with lcdc := v } := by
  unfold Ppu.writeLcdc Ppu.lcdOn
  cases p.lcdc.getLsbD 7 <;> cases v.getLsbD 7 <;> rfl

/-- The stored bits of `STAT` as a field and as a shift (R301). -/
theorem statEn_field_eq : ∀ v : Byte, (v >>> 3).setWidth 4 = v.extractLsb' 3 4 := by decide

/-- Settles O42: each register's address is in the page, where a write goes to the register of that address. -/
theorem registerWrites : Obligations.RegisterWrites := by
  unfold Obligations.RegisterWrites
  intro s v
  dsimp only
  have hreg (a : Word) (h : 0xFF00 ≤ a.toNat ∧ a.toNat < 0xFF80 := by decide) : cpuWrite s a v = writeIo s a v :=
    cpuWrite_io s v h.1 h.2
  refine ⟨?ifr, ?lcdc, ?stat, hreg 0xFF42, hreg 0xFF43, hreg 0xFF44, hreg 0xFF45, cpuWrite_dma s v, hreg 0xFF47,
    hreg 0xFF48, hreg 0xFF49, hreg 0xFF4A, hreg 0xFF4B, fun a h1 h2 h0F hlcd => ?cell⟩
  case ifr =>
    rw [← BitVec.setWidth_eq_extractLsb' (by decide)]
    exact hreg 0xFF0F
  case lcdc =>
    refine (hreg 0xFF40).trans ?_
    show { s with ppu := s.ppu.writeLcdc v } = _
    rw [Ppu.writeLcdc_eq]
    split
    · rfl
    · split <;> rfl
  case stat =>
    rw [statEn_field_eq]
    exact hreg 0xFF41
  case cell =>
    have hecho : regionOf a ≠ .echo := by
      have hbounds := regionOf_toNat a
      intro he
      simp only [he, reduceCtorEq, false_and, true_and, or_false, false_or] at hbounds
      omega
    rw [cpuWrite_io s v h1 h2, writeIo, ioRegOf_eq_cell h0F hlcd]
    exact storeCell_of_not_echo hecho s v

end Sys2Proof.Machine
end

section
/-! Interrupts (60_exceptions.md R404 to R414): the test, taking the lowest pending source, and a request; and the values of
reset (70_reset_and_hazards.md R441 to R447). -/

namespace Sys2Proof.Machine

/-! ## The test and the dispatch -/

/-- The interrupt test in the spec's eight bits (R404, R411). -/
theorem interruptTaken_iff (s : State) :
    interruptTaken s = true ↔ s.ime = true ∧ s.ie &&& s.ifr.setWidth 8 &&& 0x1F ≠ 0 := by
  rw [Ne, pendingByte_eq_zero_iff, interruptTaken, Bool.and_eq_true, bne_iff_ne]

/-- A machine running after the boundary actions takes an interrupt that is due (R410, R411). -/
theorem beginStep_of_interrupt {s : State} (h : (boundary s).runState = .running)
    (hi : interruptTaken (boundary s) = true) : beginStep s = .over (dispatch (boundary s)) := by
  unfold beginStep
  split
  · next hf => simp [boundary_of_faulted hf] at h
  · simp [h, hi]

/-- A source is pending when it is enabled and requested (R404). -/
theorem pending_getLsbD (s : State) {n : Nat} (hn : n < 5) :
    s.pending.getLsbD n = (s.ie.getLsbD n && s.ifr.getLsbD n) := by
  simp [State.pending, hn]

/-- A dispatch as two CPU writes between register updates (R166, R412). -/
theorem dispatch_eq (s : State) :
    dispatch s =
      { cpuWrite
          (cpuWrite { s with
            ifr := s.ifr &&& ~~~(1#5 <<< lowestSource s.pending), ime := false, imeDelay := 0, haltBug := false }
            (s.sp - 1) (highByte s.pc))
          (s.sp - 2) (lowByte s.pc) with
        sp := s.sp - 2
        pc := serviceAddress (lowestSource s.pending)
        cycles := Config.dispatchCycles } := by
  unfold dispatch
  dsimp only
  rw [push16_eq]

/-- Settles O35: the lowest source is the one that `dispatch` finds, and a pending one makes the test hold. -/
theorem dispatchTakesLowestPending : Obligations.DispatchTakesLowestPending := by
  unfold Obligations.DispatchTakesLowestPending
  intro s n
  dsimp only
  intro hrun hime hn hset hlow
  have hbit : (boundary s).pending.getLsbD n = true := (pending_getLsbD _ hn).trans hset
  have hlowest : lowestSource (boundary s).pending = n :=
    lowestSource_eq hn hbit fun m hm => (pending_getLsbD _ (hm.trans hn)).trans (hlow m hm)
  have htaken : interruptTaken (boundary s) = true := by
    rw [interruptTaken_iff, Ne, pendingByte_eq_zero_iff]
    exact ⟨hime, fun h0 => by simp [h0] at hbit⟩
  simp only [step, beginStep_of_interrupt hrun htaken, dispatch_eq, hlowest]
  rfl

/-- Settles O36: the branches of a running step are those of the test; a request is an OR of five bits. -/
theorem interruptTestAndRequest : Obligations.InterruptTestAndRequest := by
  unfold Obligations.InterruptTestAndRequest
  refine ⟨fun s => ⟨interruptTaken_iff _, fun hrun hi => ?taken, fun hrun hi => ?fetches⟩, fun s mask n hn => ⟨?bit, rfl⟩⟩
  case taken => simp only [step, beginStep_of_interrupt hrun hi]
  case fetches =>
    have hb : beginStep s = .run (boundary s) := beginStep_of_running hrun hi
    split <;> next he => simp only [step, hb, he]
  case bit => simp [requestInterrupts, hn]

/-! ## Reset -/

/-- Every pixel of a framebuffer of zeros is 0 (R447). -/
theorem Ppu.shade_reset (y x : Nat) : Ppu.reset.shade y x = 0 := by
  unfold Ppu.shade Ppu.reset
  dsimp only
  split
  · rfl
  · next row hrow =>
    obtain ⟨-, rfl⟩ := Vector.getElem?_eq_some_iff.mp hrow
    rw [Vector.getElem_replicate, Vector.getElem?_replicate]
    split <;> rfl

/-- Settles O54: the registers one by one, and the framebuffer pixel by pixel. -/
theorem resetValues : Obligations.ResetValues := by
  unfold Obligations.ResetValues
  dsimp only
  refine ⟨rfl, rfl, rfl, rfl, rfl, rfl, rfl, rfl, rfl, rfl, rfl, rfl, rfl, rfl, rfl, rfl, rfl, rfl, ?_, ?_, ?_, rfl,
    rfl, rfl, rfl, rfl, rfl, rfl, rfl, rfl, rfl, rfl, rfl, rfl, rfl, rfl, rfl, rfl, Ppu.shade_reset⟩
  · decide
  · decide
  · decide

end Sys2Proof.Machine
end

section
/-! The scanline renderer (48_ppu_render.md R350 to R366): the sprites of a line in their order, the pixel of one sprite and
of several, the background and the window, the row, and the packed framebuffer. -/

namespace Sys2Proof.Machine

/-! ## The order of the sprites -/

/-- The sprites' order (R358): columns do not fall. -/
abbrev SortedByX (os : List Sprite) : Prop := os.Pairwise (fun o q => o.x.toNat ≤ q.x.toNat)

theorem insertByX_perm (o : Sprite) (os : List Sprite) : (insertByX o os).Perm (o :: os) := by
  induction os with
  | nil => exact .refl _
  | cons q qs ih =>
    rw [insertByX]
    split
    · exact .refl _
    · exact (ih.cons q).trans (.swap o q qs)

theorem insertByX_sorted (o : Sprite) {os : List Sprite} (h : SortedByX os) : SortedByX (insertByX o os) := by
  induction os with
  | nil => exact List.pairwise_singleton _ o
  | cons q qs ih =>
    obtain ⟨hq, hqs⟩ := List.pairwise_cons.mp h
    rw [insertByX]
    split
    · next hlt =>
      refine List.pairwise_cons.mpr ⟨fun r hr => ?_, h⟩
      obtain rfl | hr := List.mem_cons.mp hr
      · exact hlt.le
      · exact hlt.le.trans (hq r hr)
    · next hle =>
      refine List.pairwise_cons.mpr ⟨fun r hr => ?_, ih hqs⟩
      obtain rfl | hr := List.mem_cons.mp ((insertByX_perm o qs).mem_iff.mp hr)
      · exact Nat.le_of_not_lt hle
      · exact hq r hr

/-- Where the inserted sprite's column is not `x`, the sprites of column `x` stay as they are. -/
theorem insertByX_filter_other {o : Sprite} {x : Byte} (hx : o.x ≠ x) (os : List Sprite) :
    (insertByX o os).filter (fun r => r.x == x) = os.filter (fun r => r.x == x) := by
  induction os with
  | nil => simp [insertByX, hx]
  | cons q qs ih =>
    rw [insertByX]
    split
    · rw [List.filter_cons_of_neg (by simpa using hx)]
    · rw [List.filter_cons, List.filter_cons, ih]

/-- Among the sprites of its own column the inserted one comes last: the insertion is stable (R358). -/
theorem insertByX_filter_same (o : Sprite) {os : List Sprite} (h : SortedByX os) :
    (insertByX o os).filter (fun r => r.x == o.x) = os.filter (fun r => r.x == o.x) ++ [o] := by
  induction os with
  | nil => simp [insertByX]
  | cons q qs ih =>
    obtain ⟨hq, hqs⟩ := List.pairwise_cons.mp h
    rw [insertByX]
    split
    · next hlt =>
      have hnone : (q :: qs).filter (fun r => r.x == o.x) = [] := by
        refine List.filter_eq_nil_iff.mpr fun r hr he => ?_
        have hx : r.x = o.x := eq_of_beq he
        obtain rfl | hr := List.mem_cons.mp hr
        · rw [hx] at hlt; omega
        · have := hq r hr; rw [hx] at this; omega
      rw [List.filter_cons_of_pos (by simp), hnone]
      rfl
    · rw [List.filter_cons, List.filter_cons, ih hqs]
      split <;> rfl

/-- Sorting one sprite more is an insertion. -/
theorem sortByX_append (os : List Sprite) (o : Sprite) : sortByX (os ++ [o]) = insertByX o (sortByX os) := by
  simp only [sortByX, List.foldl_append, List.foldl_cons, List.foldl_nil]

theorem sortByX_perm (os : List Sprite) : (sortByX os).Perm os := by
  induction os using List.reverseRecOn with
  | nil => exact .refl _
  | append_singleton os o ih =>
    rw [sortByX_append]
    exact (insertByX_perm o _).trans ((ih.cons o).trans (List.perm_append_singleton o os).symm)

theorem sortByX_sorted (os : List Sprite) : SortedByX (sortByX os) := by
  induction os using List.reverseRecOn with
  | nil => exact List.Pairwise.nil
  | append_singleton os o ih => rw [sortByX_append]; exact insertByX_sorted o ih

/-- Sorting keeps the order of the sprites of one column (R358). -/
theorem sortByX_filter (os : List Sprite) (x : Byte) :
    (sortByX os).filter (fun r => r.x == x) = os.filter (fun r => r.x == x) := by
  induction os using List.reverseRecOn with
  | nil => rfl
  | append_singleton os o ih =>
    rw [sortByX_append, List.filter_append]
    by_cases hx : o.x = x
    · subst hx
      rw [insertByX_filter_same o (sortByX_sorted os), ih]
      simp
    · rw [insertByX_filter_other hx, ih]
      simp [hx]

/-- Settles O48: the selection is a stable sort of the first ten entries that the line crosses. -/
theorem spritesOfALine : Obligations.SpritesOfALine := by
  unfold Obligations.SpritesOfALine
  intro p mem ly
  dsimp only
  have hcross (o : Sprite) : o.crosses (spriteHeight p) ly =
      decide (o.y.toNat ≤ ly + 16 ∧ ly + 16 < o.y.toNat + if p.lcdc.getLsbD 2 then 16 else 8) := by
    rw [Bool.decide_and]; rfl
  simp only [← hcross]
  rw [selectSprites]
  split
  · exact ⟨sortByX_perm _, sortByX_sorted _, sortByX_filter _⟩
  · exact ⟨.refl _, .nil, fun _ => rfl⟩

/-! ## The sprites over a pixel -/

/-- Sprites that are transparent at a pixel leave it to those after them (R360). -/
theorem spriteOver_append_of_transparent {p : Ppu} {mem : Memory} {ly x : Nat} {above : List Sprite}
    (h : ∀ q ∈ above, spritePixel p mem q ly x = none) (ci : BitVec 2) (shade : Shade) (below : List Sprite) :
    spriteOver p mem ly x ci shade (above ++ below) = spriteOver p mem ly x ci shade below := by
  induction above with
  | nil => rfl
  | cons q qs ih =>
    obtain ⟨hq, hqs⟩ := List.forall_mem_cons.mp h
    rw [List.cons_append, spriteOver, hq]
    exact ih hqs

/-- A sprite that shows at a pixel decides it (R360). -/
theorem spriteOver_cons_of_shows {p : Ppu} {mem : Memory} {ly x : Nat} {o : Sprite} {sci : BitVec 2}
    (h : spritePixel p mem o ly x = some sci) (ci : BitVec 2) (shade : Shade) (below : List Sprite) :
    spriteOver p mem ly x ci shade (o :: below) =
      if o.attr.getLsbD 7 = true ∧ ci ≠ 0 then shade
      else shadeOf (if o.attr.getLsbD 4 then p.obp1 else p.obp0) sci := by
  rw [spriteOver, h]
  simp only [Bool.and_eq_true, decide_eq_true_eq]

/-- Settles O49: the transparent sprites drop out from the front, and the next one decides. -/
theorem firstOpaqueSpriteDecides : Obligations.FirstOpaqueSpriteDecides := by
  unfold Obligations.FirstOpaqueSpriteDecides
  intro p mem ly x ci shade above below o sci h
  refine ⟨?_, fun ho => ?_⟩
  · have hall := spriteOver_append_of_transparent h ci shade []
    rwa [List.append_nil] at hall
  · rw [spriteOver_append_of_transparent h, spriteOver_cons_of_shows ho]

/-! ## The pixel of a sprite -/

/-- The number of the tile that holds row `r` (R359): in 16-row mode bit 0 of the sprite's tile is the half. -/
theorem tileOfRow_toNat (o : Sprite) {height r : Nat} (hr : r < height) :
    (o.tileOfRow height r).toNat = if height = 16 then o.tile.toNat / 2 * 2 + r / 8 else o.tile.toNat := by
  unfold Sprite.tileOfRow
  split
  · have hhalf : ∀ t : Byte, (t &&& 0xFE ||| BitVec.ofNat 8 0).toNat = t.toNat / 2 * 2 + 0 ∧
        (t &&& 0xFE ||| BitVec.ofNat 8 1).toNat = t.toNat / 2 * 2 + 1 := by decide
    obtain h8 | h8 : r / 8 = 0 ∨ r / 8 = 1 := by omega
    · rw [h8]; exact (hhalf o.tile).1
    · rw [h8]; exact (hhalf o.tile).2
  · rfl

theorem Sprite.row_lt {o : Sprite} {height ly : Nat} (h : o.y.toNat ≤ ly + 16) (h' : ly + 16 < o.y.toNat + height) :
    o.row height ly < height := by
  unfold Sprite.row; split <;> omega

/-- A sprite shows nothing outside its eight columns (R359). -/
theorem spritePixel_outside {p : Ppu} {mem : Memory} {o : Sprite} {ly x : Nat}
    (h : ¬ (o.x.toNat ≤ x + 8 ∧ x + 8 < o.x.toNat + 8)) : spritePixel p mem o ly x = none := by
  rw [spritePixel, Sprite.column, if_neg h]

/-- Within its columns a sprite shows the colour index of its tile there, unless that is 0 (R359). -/
theorem spritePixel_inside {p : Ppu} {mem : Memory} {o : Sprite} {ly x : Nat}
    (h : o.x.toNat ≤ x + 8 ∧ x + 8 < o.x.toNat + 8) :
    spritePixel p mem o ly x =
      let r := o.row (spriteHeight p) ly
      let c := if o.attr.getLsbD 5 then 7 - (x + 8 - o.x.toNat) else x + 8 - o.x.toNat
      let ci := tilePixel mem (0x8000 + 16 * (o.tileOfRow (spriteHeight p) r).toNat) (r % 8) c
      if ci = 0 then none else some ci := by
  rw [spritePixel, Sprite.column, if_pos h]
  rfl

/-- A number of two binary digits is the index 0 only where it is 0. -/
theorem ofNat_digits_eq_zero_iff (hi lo : Nat) :
    BitVec.ofNat 2 (2 * (hi % 2) + lo % 2) = 0 ↔ 2 * (hi % 2) + lo % 2 = 0 := by
  rw [← BitVec.toNat_inj, BitVec.toNat_ofNat]
  show _ % 4 = 0 ↔ _
  omega

/-- Settles O50: inside its columns the sprite's pixel is that of its tile, whose number and row are those of R359. -/
theorem spritePixelOfATile : Obligations.SpritePixelOfATile := by
  unfold Obligations.SpritePixelOfATile
  intro p mem o ly x h c0 r0 r c t lo hi ci hy hy'
  by_cases hcol : o.x.toNat ≤ x + 8 ∧ x + 8 < o.x.toNat + 8
  · have hc0 : c0.toNat = x + 8 - o.x.toNat := by omega
    have hc : (if o.attr.getLsbD 5 then 7 - (x + 8 - o.x.toNat) else x + 8 - o.x.toNat) = c := by rw [← hc0]
    have hrow : o.row (spriteHeight p) ly = r := rfl
    have ht : (o.tileOfRow (spriteHeight p) r).toNat = t := tileOfRow_toNat o (Sprite.row_lt hy hy')
    have hpixel : tilePixel mem (0x8000 + 16 * t) (r % 8) c = BitVec.ofNat 2 ci := tilePixel_eq _ _ _ _
    have hzero : BitVec.ofNat 2 ci = 0 ↔ ci = 0 := ofNat_digits_eq_zero_iff _ _
    have hin : ¬ (c0 < 0 ∨ 7 < c0) := by omega
    rw [spritePixel_inside hcol]
    simp only [hc, hrow, ht, hpixel, hzero, ← or_assoc, hin, false_or]
  · rw [spritePixel_outside hcol, if_pos (by omega)]

/-! ## The row -/

/-- The base of a tile of the two planes: unsigned, or signed about `0x9000` (R353). -/
theorem tileBase_plane (p : Ppu) (t : Byte) :
    tileBase p t false =
      if p.lcdc.getLsbD 4 then 0x8000 + 16 * t.toNat
      else if t.toNat < 128 then 0x9000 + 16 * t.toNat
      else 0x9000 + 16 * t.toNat - 4096 := by
  have ht := t.isLt
  unfold tileBase
  rw [Bool.false_or, BitVec.toInt_eq_toNat_cond]
  split
  · rfl
  · split <;> split <;> omega

/-- Settles O47: the two planes are one plane at two places, whose colour index and shade are numbers. -/
theorem rowOfALine : Obligations.RowOfALine := by
  unfold Obligations.RowOfALine
  intro p mem ly x hx plane inWindow ci shade
  have hplane (map px py : Nat) : planePixel p mem map px py = BitVec.ofNat 2 (plane map px py) := by
    rw [planePixel, tilePixel_eq, tileBase_plane]
  have hplane_lt (map px py : Nat) : plane map px py < 4 := by
    show 2 * (_ % 2) + _ % 2 < 4
    omega
  have hcovers : windowCovers p ly x = true ↔ inWindow := by
    simp only [windowCovers, Bool.and_eq_true, decide_eq_true_eq, and_assoc, inWindow]
  have hindex : layerIndex p mem ly x = BitVec.ofNat 2 ci := by
    unfold layerIndex ci
    cases p.lcdc.getLsbD 0 with
    | false => rfl
    | true =>
      by_cases hw : inWindow
      · simp only [if_pos hw, hcovers.mpr hw, windowPixel, hplane, mapBase]
        rfl
      · have hw' : windowCovers p ly x = false := Bool.eq_false_iff.mpr fun h => hw (hcovers.mp h)
        simp only [if_neg hw, hw', bgPixel, hplane, mapBase]
        rfl
  have hci : ci < 4 := by
    unfold ci
    split
    · decide
    · split <;> exact hplane_lt _ _ _
  have hshade : layerShade p mem ly x = BitVec.ofNat 2 shade := by
    unfold layerShade shade
    rw [hindex]
    cases p.lcdc.getLsbD 0 with
    | false => rfl
    | true => exact shadeOf_eq p.bgp hci
  rw [renderRow_get p mem ly x hx, pixelShade, hindex, hshade]

/-! ## The packed framebuffer -/

/-- The four pixels of a packed byte, each in its place (R364). -/
theorem packed_fields : ∀ a b c d : BitVec 2,
    ((d ++ c ++ b ++ a : Byte) >>> 0).setWidth 2 = a ∧ ((d ++ c ++ b ++ a : Byte) >>> 2).setWidth 2 = b ∧
      ((d ++ c ++ b ++ a : Byte) >>> 4).setWidth 2 = c ∧ ((d ++ c ++ b ++ a : Byte) >>> 6).setWidth 2 = d := by
  decide +kernel

/-- Pixel `4 k + j` in its place of byte `k` (R364). -/
theorem Ppu.packed_pixel (p : Ppu) (k : Nat) {j : Nat} (hj : j < 4) :
    ((p.packed k) >>> (2 * j)).setWidth 2 = p.shade ((4 * k + j) / 160) ((4 * k + j) % 160) := by
  obtain ⟨h0, h1, h2, h3⟩ := packed_fields (p.shade ((4 * k + 0) / 160) ((4 * k + 0) % 160))
    (p.shade ((4 * k + 1) / 160) ((4 * k + 1) % 160)) (p.shade ((4 * k + 2) / 160) ((4 * k + 2) % 160))
    (p.shade ((4 * k + 3) / 160) ((4 * k + 3) % 160))
  interval_cases j
  · exact h0
  · exact h1
  · exact h2
  · exact h3

/-- A shade of the framebuffer is the stored one (R364). -/
theorem Ppu.shade_eq (p : Ppu) {y x : Nat} (hy : y < 144) (hx : x < 160) : p.shade y x = (p.fb[y]'hy)[x]'hx := by
  have hrow : p.fb[y]? = some (p.fb[y]'hy) := Vector.getElem?_eq_getElem hy
  have hpixel : (p.fb[y]'hy)[x]? = some ((p.fb[y]'hy)[x]'hx) := Vector.getElem?_eq_getElem hx
  simp only [Ppu.shade, hrow, hpixel, Option.getD_some]

/-- Settles O51: the accessor reads the byte and the place at which the pixel was packed. -/
theorem packedFramebuffer : Obligations.PackedFramebuffer := by
  unfold Obligations.PackedFramebuffer
  refine fun p => ⟨fun k j _ hj => p.packed_pixel k hj, fun y x hy hx => ⟨?_, p.shade_eq hy hx⟩⟩
  have hrow : (160 * y + x) / 160 = y := by omega
  have hcolumn : (160 * y + x) % 160 = x := by omega
  rw [Ppu.framebufferPixel, Ppu.packed_pixel p _ (Nat.mod_lt _ (by decide)), Nat.div_add_mod, hrow, hcolumn]
  exact p.shade_eq hy hx

end Sys2Proof.Machine
end
